-- ==== Sys2Proof/Word.lean ====
section
/-! DEFINITION. The widths of the spec (00_scope.md R7, 30_encoding.md R47) and the selection fields
that every command word carries. -/

namespace Sys2Proof

/-- An 8-bit quantity: a pixel field, a mask, an operand byte, an image byte (R7). -/
abbrev Byte := BitVec 8

/-- A command word (R47). -/
abbrev CmdWord := BitVec 48

/-- The fields `SP` and `SEL` of a command word (R47): whether a selection is present, and the mask in
user order.  Every decoded command carries them (R55), also where they are "don't care" (R52). -/
structure SelField where
  sp : Bool
  sel : Byte
deriving DecidableEq, Repr

end Sys2Proof
end

