-- ==== Sys2Proof/Config.lean ====
section
/-! DEFINITION. The parameters of the block that the spec leaves open (00_scope.md R6): constants
without a body, so that no proof can see a value of them. -/

namespace Sys2Proof

/-- The 13 named colours, in the order of R59. -/
inductive ColorName where
  | red | coral | orange | gold | yellow | lime | green | aqua | blue | purple | pink | white | black
deriving DecidableEq, Repr

/-- The three colour channels of a triple of `COLOR_RGB` (R6). -/
structure Rgb where
  r : Byte
  g : Byte
  b : Byte
deriving DecidableEq, Repr, Inhabited

/-- Free value: `COLOR_RGB`, total on the 13 names; "the source gives no values" (R6, R109, D17).
Assumption log entry 1. -/
opaque Config.colorRgb : ColorName → Rgb

/-- Free value: by how much the end frame is longer than the 36 bits that R142 asks for at least.
Assumption log entry 2. -/
opaque Config.endFrameExtra : Nat

/-- `N_END`, the number of zero bits in the end frame: "integer, `N_END >= 36`" (R6, R142). -/
def Config.nEnd : Nat := Config.endFrameExtra + 36

end Sys2Proof
end

