-- ==== Sys2Proof/Syntax.lean ====
section
/-! DEFINITION. The command set: one constructor per row of spec/opcode_table.json (30_encoding.md R49),
each with the fields its decoded command has (R47, R54, R55). -/

namespace Sys2Proof

/-- A decoded command.  `m` is the pair `SP`, `SEL`, which formats N and D carry and ignore (R52).
The constructor of `SHOW` is `showCmd`, because the plain word is one of Lean's own. -/
inductive Instr where
  | nop (m : SelField)
  | off (m : SelField)
  | on (m : SelField)
  | left (m : SelField)
  | right (m : SelField)
  | hold (m : SelField)
  | showCmd (m : SelField)
  | clear (m : SelField)
  | bright (m : SelField) (a0 : Byte)
  | rgb (m : SelField) (r g b : Byte)
  | binoff (m : SelField)
  | binary (m : SelField) (a0 : Byte)
  | delay (m : SelField) (ms : BitVec 32)
  | rotin (m : SelField)
  | rotout (m : SelField)
  | rotleft (m : SelField)
  | rotright (m : SelField)
  | state (m : SelField)
  | red (m : SelField)
  | coral (m : SelField)
  | orange (m : SelField)
  | gold (m : SelField)
  | yellow (m : SelField)
  | lime (m : SelField)
  | green (m : SelField)
  | aqua (m : SelField)
  | blue (m : SelField)
  | purple (m : SelField)
  | pink (m : SelField)
  | white (m : SelField)
  | black (m : SelField)
deriving DecidableEq, Repr

end Sys2Proof
end

