-- ==== Sys2Proof/WellFormed.lean ====
section
/-! DEFINITION. Which commands are well formed.  The types of the fields of `Instr` already keep every
operand inside its field of the word (30_encoding.md R47), so the one check left is the operand range
that the spec gives a command (43_pixel_commands.md R107; 60_exceptions.md R150). -/

namespace Sys2Proof

/-- Every operand lies in the range its rule gives: `BRIGHT`'s brightness is 0..31 (R107), every other
operand value is legal (R108, R124, R131).  A word that decodes to a command which is not well formed is
still a word of the machine: its step reports `ERR_RANGE` (R56). -/
def Instr.wf : Instr → Bool
  | .bright _ a0 => a0.toNat ≤ 31
  | .nop _ | .off _ | .on _ | .left _ | .right _ | .hold _ | .showCmd _ | .clear _ => true
  | .rgb _ _ _ _ | .binoff _ | .binary _ _ | .delay _ _ => true
  | .rotin _ | .rotout _ | .rotleft _ | .rotright _ | .state _ => true
  | .red _ | .coral _ | .orange _ | .gold _ | .yellow _ | .lime _ | .green _ | .aqua _ | .blue _ => true
  | .purple _ | .pink _ | .white _ | .black _ => true

end Sys2Proof
end

