-- ==== Sys2Proof/Decode.lean ====
section
/-! DEFINITION. The command word: its fields, its five formats, the opcode map, the decoder that is total
on 48-bit words and rejects by name, and the encoder (30_encoding.md R47 to R56). -/

namespace Sys2Proof

/-- The `err` field of a status, with the value that 60_exceptions.md R148 records beside the code. -/
inductive Err where
  /-- code 0: the step completed -/
  | ok
  /-- code 1: a reserved opcode (R50), with the value of `OP` -/
  | unrecognized (op : BitVec 6)
  /-- code 2: bit 7 set (R51) or a must-be-zero field not zero (R52), with the field's bits `hi : lo` -/
  | reserved (hi lo : Nat)
  /-- code 3: an operand out of range (R70, R107), with the value -/
  | range (value : Nat)
  /-- code 4, the transcriber's only: a refused, missing or bad argument (R66, R71, R73), with the
  token's position counted from 0 -/
  | operand (token : Nat)
  /-- code 1 at the transcriber: an unknown directive name (R74), with the token's position -/
  | unknownName (token : Nat)
deriving DecidableEq, Repr

/-- The numeric error code (R148). -/
def Err.code : Err → Nat
  | .ok => 0
  | .unrecognized _ => 1
  | .reserved _ _ => 2
  | .range _ => 3
  | .operand _ => 4
  | .unknownName _ => 1

/-- The formats of R48. -/
inductive Format where
  | n | s | b1 | b3 | d
deriving DecidableEq, Repr

/-- The bits that select an opcode of the format (R48, column "mask"). -/
def Format.mask : Format → CmdWord
  | .n => 0xFFFFFFFF00BF#48
  | .s => 0xFFFFFFFF00BF#48
  | .b1 => 0xFFFFFF0000BF#48
  | .b3 => 0xFF00000000BF#48
  | .d => 0x0000000000BF#48

/-- The fields of a command word (R47). -/
structure Fields where
  op : BitVec 6
  sp : Bool
  rsv0 : Bool
  sel : Byte
  a0 : Byte
  a1 : Byte
  a2 : Byte
  rsv1 : Byte
deriving DecidableEq, Repr

/-- Reads the fields of a word (R47). -/
def fieldsOf (w : CmdWord) : Fields where
  op := w.extractLsb' 0 6
  sp := w.getLsbD 6
  rsv0 := w.getLsbD 7
  sel := w.extractLsb' 8 8
  a0 := w.extractLsb' 16 8
  a1 := w.extractLsb' 24 8
  a2 := w.extractLsb' 32 8
  rsv1 := w.extractLsb' 40 8

/-- Lays fields out as a word: `RSV1 A2 A1 A0 SEL RSV0 SP OP`, most significant first (R47). -/
def pack (f : Fields) : CmdWord :=
  f.rsv1 ++ f.a2 ++ f.a1 ++ f.a0 ++ f.sel ++ BitVec.ofBool f.rsv0 ++ BitVec.ofBool f.sp ++ f.op

/-- `SP` and `SEL` of a word's fields. -/
def selFieldOf (f : Fields) : SelField := ⟨f.sp, f.sel⟩

/-- `MS`, bits 47:16 of the word, which overlays `RSV1 A2 A1 A0` (R47, R37). -/
def msOf (f : Fields) : BitVec 32 := f.rsv1 ++ f.a2 ++ f.a1 ++ f.a0

/-- The format of each opcode of R49; none for the reserved opcodes 0x12..0x1F and 0x2D..0x3F (R50). -/
def formatOf (op : BitVec 6) : Option Format :=
  match op.toNat with
  | 0x00 | 0x01 | 0x02 | 0x03 | 0x04 | 0x05 | 0x06 | 0x07 => some .n
  | 0x08 => some .b1
  | 0x09 => some .b3
  | 0x0A => some .n
  | 0x0B => some .b1
  | 0x0C => some .d
  | 0x0D | 0x0E | 0x0F | 0x10 | 0x11 => some .n
  | 0x20 | 0x21 | 0x22 | 0x23 | 0x24 | 0x25 | 0x26 | 0x27 | 0x28 | 0x29 | 0x2A | 0x2B | 0x2C => some .s
  | _ => none

/-- The command of each opcode of R49 with the operands of R54. -/
def commandOf (f : Fields) : Option Instr :=
  match f.op.toNat with
  | 0x00 => some (.nop (selFieldOf f))
  | 0x01 => some (.off (selFieldOf f))
  | 0x02 => some (.on (selFieldOf f))
  | 0x03 => some (.left (selFieldOf f))
  | 0x04 => some (.right (selFieldOf f))
  | 0x05 => some (.hold (selFieldOf f))
  | 0x06 => some (.showCmd (selFieldOf f))
  | 0x07 => some (.clear (selFieldOf f))
  | 0x08 => some (.bright (selFieldOf f) f.a0)
  | 0x09 => some (.rgb (selFieldOf f) f.a0 f.a1 f.a2)
  | 0x0A => some (.binoff (selFieldOf f))
  | 0x0B => some (.binary (selFieldOf f) f.a0)
  | 0x0C => some (.delay (selFieldOf f) (msOf f))
  | 0x0D => some (.rotin (selFieldOf f))
  | 0x0E => some (.rotout (selFieldOf f))
  | 0x0F => some (.rotleft (selFieldOf f))
  | 0x10 => some (.rotright (selFieldOf f))
  | 0x11 => some (.state (selFieldOf f))
  | 0x20 => some (.red (selFieldOf f))
  | 0x21 => some (.coral (selFieldOf f))
  | 0x22 => some (.orange (selFieldOf f))
  | 0x23 => some (.gold (selFieldOf f))
  | 0x24 => some (.yellow (selFieldOf f))
  | 0x25 => some (.lime (selFieldOf f))
  | 0x26 => some (.green (selFieldOf f))
  | 0x27 => some (.aqua (selFieldOf f))
  | 0x28 => some (.blue (selFieldOf f))
  | 0x29 => some (.purple (selFieldOf f))
  | 0x2A => some (.pink (selFieldOf f))
  | 0x2B => some (.white (selFieldOf f))
  | 0x2C => some (.black (selFieldOf f))
  | _ => none

/-- The must-be-zero field of the format that is not zero, if any, as its bits `hi`, `lo` (R48, R52, R55). -/
def mustBeZeroFault (fmt : Format) (f : Fields) : Option (Nat × Nat) :=
  match fmt with
  | .n => if msOf f = 0 then none else some (47, 16)
  | .s => if msOf f = 0 then none else some (47, 16)
  | .b1 => if f.rsv1 = 0 ∧ f.a2 = 0 ∧ f.a1 = 0 then none else some (47, 24)
  | .b3 => if f.rsv1 = 0 then none else some (47, 40)
  | .d => none

/-- Decoding in the order of R55: reserved opcode, then bit 7, then the must-be-zero fields. -/
def decodeFields (f : Fields) : Except Err Instr :=
  match formatOf f.op, commandOf f with
  | some fmt, some i =>
    if f.rsv0 then .error (.reserved 7 7)
    else match mustBeZeroFault fmt f with
      | some (hi, lo) => .error (.reserved hi lo)
      | none => .ok i
  | _, _ => .error (.unrecognized f.op)

/-- `Decode(w)` of R55, total on 48-bit words. -/
def decode (w : CmdWord) : Except Err Instr := decodeFields (fieldsOf w)

/-- The opcode of each command (R49). -/
def Instr.opcode : Instr → BitVec 6
  | .nop _ => 0x00#6
  | .off _ => 0x01#6
  | .on _ => 0x02#6
  | .left _ => 0x03#6
  | .right _ => 0x04#6
  | .hold _ => 0x05#6
  | .showCmd _ => 0x06#6
  | .clear _ => 0x07#6
  | .bright _ _ => 0x08#6
  | .rgb _ _ _ _ => 0x09#6
  | .binoff _ => 0x0A#6
  | .binary _ _ => 0x0B#6
  | .delay _ _ => 0x0C#6
  | .rotin _ => 0x0D#6
  | .rotout _ => 0x0E#6
  | .rotleft _ => 0x0F#6
  | .rotright _ => 0x10#6
  | .state _ => 0x11#6
  | .red _ => 0x20#6
  | .coral _ => 0x21#6
  | .orange _ => 0x22#6
  | .gold _ => 0x23#6
  | .yellow _ => 0x24#6
  | .lime _ => 0x25#6
  | .green _ => 0x26#6
  | .aqua _ => 0x27#6
  | .blue _ => 0x28#6
  | .purple _ => 0x29#6
  | .pink _ => 0x2A#6
  | .white _ => 0x2B#6
  | .black _ => 0x2C#6

/-- The format column of R49, by command. -/
def Instr.format : Instr → Format
  | .bright _ _ | .binary _ _ => .b1
  | .rgb _ _ _ _ => .b3
  | .delay _ _ => .d
  | .nop _ | .off _ | .on _ | .left _ | .right _ | .hold _ | .showCmd _ | .clear _ | .binoff _ => .n
  | .rotin _ | .rotout _ | .rotleft _ | .rotright _ | .state _ => .n
  | .red _ | .coral _ | .orange _ | .gold _ | .yellow _ | .lime _ | .green _ | .aqua _ | .blue _ => .s
  | .purple _ | .pink _ | .white _ | .black _ => .s

/-- `SP` and `SEL` of a command. -/
def Instr.selField : Instr → SelField
  | .nop m | .off m | .on m | .left m | .right m | .hold m | .showCmd m | .clear m => m
  | .bright m _ => m
  | .rgb m _ _ _ => m
  | .binoff m => m
  | .binary m _ => m
  | .delay m _ => m
  | .rotin m | .rotout m | .rotleft m | .rotright m | .state m => m
  | .red m | .coral m | .orange m | .gold m | .yellow m | .lime m | .green m | .aqua m | .blue m => m
  | .purple m | .pink m | .white m | .black m => m

/-- The four operand bytes of a word: `A0`, `A1`, `A2` and `RSV1` (R47). -/
structure OperandBytes where
  a0 : Byte
  a1 : Byte
  a2 : Byte
  rsv1 : Byte
deriving DecidableEq, Repr

/-- The operand bytes of a command, zero where its format says zero (R48, R54). -/
def Instr.operandBytes : Instr → OperandBytes
  | .bright _ a0 => ⟨a0, 0, 0, 0⟩
  | .rgb _ r g b => ⟨r, g, b, 0⟩
  | .binary _ a0 => ⟨a0, 0, 0, 0⟩
  | .delay _ ms =>
    ⟨ms.extractLsb' 0 8, ms.extractLsb' 8 8, ms.extractLsb' 16 8, ms.extractLsb' 24 8⟩
  | .nop _ | .off _ | .on _ | .left _ | .right _ | .hold _ | .showCmd _ | .clear _ | .binoff _
  | .rotin _ | .rotout _ | .rotleft _ | .rotright _ | .state _
  | .red _ | .coral _ | .orange _ | .gold _ | .yellow _ | .lime _ | .green _ | .aqua _ | .blue _
  | .purple _ | .pink _ | .white _ | .black _ => ⟨0, 0, 0, 0⟩

/-- The word's fields of a command (R47, R54). -/
def Instr.fields (i : Instr) : Fields where
  op := i.opcode
  sp := i.selField.sp
  rsv0 := false
  sel := i.selField.sel
  a0 := i.operandBytes.a0
  a1 := i.operandBytes.a1
  a2 := i.operandBytes.a2
  rsv1 := i.operandBytes.rsv1

/-- The command word of a command (R47 to R49). -/
def encode (i : Instr) : CmdWord := pack i.fields

/-- Byte `j` of a word on a byte-wide path: bits `8j+7 : 8j`, byte 0 first (20_memory.md R37). -/
def wordByte (w : CmdWord) (j : Fin 6) : Byte := w.extractLsb' (8 * j.val) 8

/-- A word from the six bytes of a byte-wide path, byte 0 first (R37). -/
def wordOfBytes (bs : Vector Byte 6) : CmdWord :=
  bs[5] ++ bs[4] ++ bs[3] ++ bs[2] ++ bs[1] ++ bs[0]

/-- What the decoder reads from a word whose low `nbits` bits are those of `w`, the bits above zero.  The
word is laid out byte by byte as R37 stores it and read back. -/
def decodeTableWord (nbits w : Nat) : Option Instr :=
  (decode (wordOfBytes (Vector.ofFn (wordByte (BitVec.ofNat 48 (w % 2 ^ nbits)))))).toOption

end Sys2Proof
end

