-- ==== Sys2Proof/Machine/State.lean ====
section
/-! DEFINITION. The state of the block (10_state.md R13, R22, R23), the transactions it takes, the
reports and events it gives out, and the state after reset (R29). -/

namespace Sys2Proof.Machine

/-- `Pixel` of R13, in the field order the test vectors use. -/
structure Pixel where
  br : Byte
  r : Byte
  g : Byte
  b : Byte
deriving DecidableEq, Repr

/-- The default pixel (R16). -/
def Pixel.default : Pixel := ⟨7, 0, 0, 0⟩

/-- `DLevel` of R13: the last level written to the data pin, or none since reset (R22). -/
inductive DLevel where
  | unset | l0 | l1
deriving DecidableEq, Repr

/-- The level of an output pin: that of the last request for it, or "unknown to the block" before the
first request after reset (R23, R29). -/
inductive PinLevel where
  | unknown | low | high
deriving DecidableEq, Repr

/-- The two output pins (R23). -/
structure Pins where
  data : PinLevel
  clock : PinLevel
deriving DecidableEq, Repr

/-- The 34 bytes of a state image (20_memory.md R33). -/
abbrev Image := Vector Byte 34

/-- The output events of a step (00_scope.md R10). -/
inductive Event where
  | setData (v : Bool)
  | setClock (v : Bool)
  | delay (ms : BitVec 32)
  | readout (image : Image)
deriving DecidableEq, Repr

/-- The status output of a `Cmd` step (40_command_cycle.md R89). -/
structure CmdStatus where
  err : Err
  changed : Bool
  rendered : Bool
deriving DecidableEq, Repr

/-- The status output of a `LOAD_IMAGE` step (R89, R94, R95). -/
structure LoadStatus where
  err : Err
  recovered : Bool
deriving DecidableEq, Repr

/-- What one step gives out: a command's status and ordered event list, or a load's status.  Reset
reports nothing (R89). -/
inductive Report where
  | cmd (status : CmdStatus) (events : List Event)
  | load (status : LoadStatus)
deriving DecidableEq, Repr

/-- The three input transactions (R78). -/
inductive Transaction where
  | cmd (w : CmdWord)
  | loadImage (image : Image) (ok : Bool)
  | reset
deriving DecidableEq, Repr

/-- The state.  `px` to `dcache` are R13's record; `pins` are the two pins of R23 and R29; `pending` and
`out` are the MODEL's own (assumption log entries 3 and 4): the transactions the host has presented and
the block has not taken yet, oldest first, and the reports given so far, oldest first. -/
structure State where
  px : Vector Pixel 8
  ltr : Bool
  on : Bool
  hold : Bool
  bin : Bool
  bmask : Byte
  dcache : DLevel
  pins : Pins
  pending : List Transaction
  out : List Report
deriving DecidableEq, Repr

/-- Why the machine could stop.  There is no way: "The block has no trap, hang or undefined outcome of
its own" (R11), so this type has no constructor; every error is a next state (log entry 17). -/
inductive Fault where
deriving DecidableEq, Repr

/-- Why an instruction could have no meaning in the model. -/
inductive Refusal where
  /-- Raised by a still unwritten arm of `exec` only; no arm is unwritten, so nobody raises it.  Safe. -/
  | notModelled (mnemonic : String)
deriving DecidableEq, Repr

/-- The outcome of a step or of a command. -/
abbrev Outcome := Host.Outcome State Fault Refusal

/-- The state after reset: the table of R29; nothing presented and nothing reported yet. -/
def State.reset : State where
  px := Vector.replicate 8 Pixel.default
  ltr := true
  on := true
  hold := false
  bin := false
  bmask := 0xFF#8
  dcache := .unset
  pins := ⟨.unknown, .unknown⟩
  pending := []
  out := []

end Sys2Proof.Machine
end

