-- ==== Sys2Proof/Machine/Flags.lean ====
section
/-! DEFINITION. The FLAGS byte of the state image (10_state.md R27). The block has no condition codes
(R26); the status bits of a step are computed in Machine/Ops.lean. -/

namespace Sys2Proof.Machine

/-- FLAGS as read: bit 0 `ltr`, bit 1 `on`, bit 2 `hold`, bit 3 `bin`, bits 7:4 zero (R27, R93). -/
def flagsByte (s : State) : Byte :=
  (0#4) ++ BitVec.ofBool s.bin ++ BitVec.ofBool s.hold ++ BitVec.ofBool s.on ++ BitVec.ofBool s.ltr

/-- `ltr` of a loaded FLAGS byte (R27, R94). -/
def flagLtr (v : Byte) : Bool := v.getLsbD 0

/-- `on` of a loaded FLAGS byte. -/
def flagOn (v : Byte) : Bool := v.getLsbD 1

/-- `hold` of a loaded FLAGS byte. -/
def flagHold (v : Byte) : Bool := v.getLsbD 2

/-- `bin` of a loaded FLAGS byte. -/
def flagBin (v : Byte) : Bool := v.getLsbD 3

end Sys2Proof.Machine
end

