-- ==== Sys2Proof/Machine/Image.lean ====
section
/-! DEFINITION. The state image, the block's one addressable space: its 34 bytes as a view of the
registers (20_memory.md R33, R34; 41_state_port.md R93) and the pixels of an image to load (R94). -/

namespace Sys2Proof.Machine

/-- Byte `j` of a pixel's four image bytes: brightness, blue, green, red (R34). -/
def pixelByte (p : Pixel) (j : Nat) : Byte :=
  match j with
  | 0 => p.br
  | 1 => p.b
  | 2 => p.g
  | _ => p.r

/-- `ImgRead(k)` inside the image (R93): pixel `i` stands at offsets `2+4i` to `5+4i`. -/
def imageByte (s : State) (k : Fin 34) : Byte :=
  if k.val = 0 then flagsByte s
  else if k.val = 1 then s.bmask
  else pixelByte (s.px[(k.val - 2) / 4]'(by omega)) ((k.val - 2) % 4)

/-- The whole image of a state (R33, R93). -/
def image (s : State) : Image := Vector.ofFn (imageByte s)

/-- `ImgRead(k)` for any offset; no byte exists outside offsets 0 to 33 (R33, R42). -/
def imgRead (s : State) (k : Nat) : Option Byte :=
  if h : k < 34 then some (imageByte s ⟨k, h⟩) else none

/-- Pixel `i` of an image (R94). -/
def imagePixel (img : Image) (i : Fin 8) : Pixel where
  br := img[2 + 4 * i.val]
  b := img[3 + 4 * i.val]
  g := img[4 + 4 * i.val]
  r := img[5 + 4 * i.val]

/-- The pixel array of an image (R94). -/
def imagePixels (img : Image) : Vector Pixel 8 := Vector.ofFn (imagePixel img)

end Sys2Proof.Machine
end

