-- ==== Sys2Proof/Machine/Operands.lean ====
section
/-! DEFINITION. The operand forms: the direction transform, the selection mask, the lane-masked update
(40_command_cycle.md R80 to R83) and the rotation helpers (45_rotate_commands.md R125). -/

namespace Sys2Proof.Machine

/-- `swap8(v)[i] = v[7-i]` (00_scope.md R9). -/
def swap8 (v : Byte) : Byte := v.reverse

/-- `Dir(S, m)` (R80): user order to internal order. -/
def dir (s : State) (m : Byte) : Byte := if s.ltr then swap8 m else m

/-- `Selection(S, d)` (R81): the internal-order mask of the selected pixels. -/
def selection (s : State) (m : SelField) : Byte := if m.sp then dir s m.sel else 0xFF#8

/-- `Masked(sel, f)` (R83) on the pixel array. -/
def masked (sel : Byte) (f : Pixel → Pixel) (px : Vector Pixel 8) : Vector Pixel 8 :=
  Vector.ofFn fun i => if sel.getLsbD i.val then f px[i] else px[i]

/-- A brightness write on one pixel (43_pixel_commands.md R107). -/
def withBrightness (br : Byte) (p : Pixel) : Pixel := ⟨br, p.r, p.g, p.b⟩

/-- A colour write on one pixel (R108, R109). -/
def withColor (r g b : Byte) (p : Pixel) : Pixel := ⟨p.br, r, g, b⟩

/-- Cyclic left by 1 on 4 bits (R125). -/
def rotl4 (x : BitVec 4) : BitVec 4 := (x <<< 1) ||| (x >>> 3)

/-- Cyclic right by 1 on 4 bits (R125). -/
def rotr4 (x : BitVec 4) : BitVec 4 := (x >>> 1) ||| (x <<< 3)

/-- Toward bit 7 (R125). -/
def rotl8 (m : Byte) : Byte := (m <<< 1) ||| (m >>> 7)

/-- Toward bit 0 (R125). -/
def rotr8 (m : Byte) : Byte := (m >>> 1) ||| (m <<< 7)

/-- `hi(m)`: the "left" nibble, pixels 4-7 (R125). -/
def hiNibble (m : Byte) : BitVec 4 := m.extractLsb' 4 4

/-- `lo(m)`: the "right" nibble, pixels 0-3 (R125). -/
def loNibble (m : Byte) : BitVec 4 := m.extractLsb' 0 4

/-- `MaskIn` (R125). -/
def maskIn (m : Byte) : Byte := rotr4 (hiNibble m) ++ rotl4 (loNibble m)

/-- `MaskOut` (R125). -/
def maskOut (m : Byte) : Byte := rotl4 (hiNibble m) ++ rotr4 (loNibble m)

/-- `PixIn` (R125): entry `i` of the list is `P'[i]`. -/
def pixIn (p : Vector Pixel 8) : Vector Pixel 8 :=
  #v[p[3], p[0], p[1], p[2], p[5], p[6], p[7], p[4]]

/-- `PixOut` (R125). -/
def pixOut (p : Vector Pixel 8) : Vector Pixel 8 :=
  #v[p[1], p[2], p[3], p[0], p[7], p[4], p[5], p[6]]

/-- `Shift(P, +1)` (R125): the record at `j` moves to `j+1`, 7 moves to 0. -/
def shiftUp (p : Vector Pixel 8) : Vector Pixel 8 :=
  #v[p[7], p[0], p[1], p[2], p[3], p[4], p[5], p[6]]

/-- `Shift(P, -1)` (R125): the record at `j` moves to `j-1`, 0 moves to 7. -/
def shiftDown (p : Vector Pixel 8) : Vector Pixel 8 :=
  #v[p[1], p[2], p[3], p[4], p[5], p[6], p[7], p[0]]

end Sys2Proof.Machine
end

