-- ==== Sys2Proof/Machine/Render.lean ====
section
/-! DEFINITION. The protocol encoder (47_render.md R133 to R144): the frame's bits from the state, the
bit serializer with its data-level cache, and what the events do to the pins (10_state.md R23). -/

namespace Sys2Proof.Machine

/-- `Lit(S, i)` (R134). -/
def lit (s : State) (i : Fin 8) : Bool := s.on && (!s.bin || s.bmask.getLsbD i.val)

/-- `EffBr(S, i)` (R135): bits 4:0 of the stored field, or 0 when not lit. -/
def effBr (s : State) (i : Fin 8) : BitVec 5 :=
  if lit s i then s.px[i].br.extractLsb' 0 5 else 0#5

/-- `Ctrl(S, i) = 0xE0 | EffBr(S, i)` (R136). -/
def ctrl (s : State) (i : Fin 8) : Byte := 0xE0#8 ||| (effBr s i).setWidth 8

/-- The bits of a byte in sending order, bit 7 first (R141). -/
def byteBits (v : Byte) : List Bool :=
  [v.getLsbD 7, v.getLsbD 6, v.getLsbD 5, v.getLsbD 4,
   v.getLsbD 3, v.getLsbD 2, v.getLsbD 1, v.getLsbD 0]

/-- The four bytes of a pixel frame: control, blue, green, red (R140). -/
def pixelFrame (s : State) (i : Fin 8) : List Byte :=
  [ctrl s i, s.px[i].b, s.px[i].g, s.px[i].r]

/-- The bytes of the eight pixel frames, in physical order (R139). -/
def frameBytes (s : State) : List Byte := (List.finRange 8).flatMap (pixelFrame s)

/-- The bit sequence `B(S)` of a render with an end frame of `nEnd` bits (R133, R138, R142). -/
def frameBits (nEnd : Nat) (s : State) : List Bool :=
  List.replicate 32 false ++ (frameBytes s).flatMap byteBits ++ List.replicate nEnd false

/-- The cache value `Lx` for a bit `x` (R143). -/
def DLevel.ofBit : Bool → DLevel
  | false => .l0
  | true => .l1

/-- `SendBit(x)` (R143): the cache afterwards and the events. -/
def sendBit (d : DLevel) (x : Bool) : DLevel × List Event :=
  if d = DLevel.ofBit x then (d, [.setClock true, .setClock false])
  else (DLevel.ofBit x, [.setData x, .setClock true, .setClock false])

/-- A sequence of `SendBit`s: the cache afterwards and all events in order. -/
def sendBits (d : DLevel) : List Bool → DLevel × List Event
  | [] => (d, [])
  | x :: xs => ((sendBits (sendBit d x).1 xs).1, (sendBit d x).2 ++ (sendBits (sendBit d x).1 xs).2)

/-- `Render(S)` with an end frame of `nEnd` bits (R133): the cache afterwards and the events. -/
def renderWith (nEnd : Nat) (s : State) : DLevel × List Event := sendBits s.dcache (frameBits nEnd s)

/-- `Render(S)` (R133) with the block's own `N_END`. -/
@[irreducible] def render (s : State) : DLevel × List Event := renderWith Config.nEnd s

/-- The level a pin request asks for. -/
def PinLevel.ofBit : Bool → PinLevel
  | false => .low
  | true => .high

/-- What one event does to the pins: the level of a pin is the value of the last request for it (R23). -/
def pinsAfterEvent (p : Pins) : Event → Pins
  | .setData v => ⟨PinLevel.ofBit v, p.clock⟩
  | .setClock v => ⟨p.data, PinLevel.ofBit v⟩
  | .delay _ => p
  | .readout _ => p

/-- The pins after a step's events, performed in order (R23, R144). -/
def pinsAfter (p : Pins) (events : List Event) : Pins := events.foldl pinsAfterEvent p

end Sys2Proof.Machine
end

