-- ==== Sys2Proof/Machine/Ops.lean ====
section
/-! DEFINITION. The named operations every meaning is built from: one setter per field, the model
operations (10_state.md R31, R32), the end of a step (40_command_cycle.md R79, R85, R89), an error
(60_exceptions.md R149), the image load (41_state_port.md R94, R95) and reset (70_reset_and_hazards.md
R165). The block takes no exception and returns from none (R155, R156): `raise` is all an error does. -/

namespace Sys2Proof.Machine

def State.setPx (s : State) (v : Vector Pixel 8) : State := { s with px := v }
def State.setLtr (s : State) (v : Bool) : State := { s with ltr := v }
def State.setOn (s : State) (v : Bool) : State := { s with on := v }
def State.setHold (s : State) (v : Bool) : State := { s with hold := v }
def State.setBin (s : State) (v : Bool) : State := { s with bin := v }
def State.setBmask (s : State) (v : Byte) : State := { s with bmask := v }
def State.setDcache (s : State) (v : DLevel) : State := { s with dcache := v }
def State.setPins (s : State) (v : Pins) : State := { s with pins := v }
def State.setPending (s : State) (v : List Transaction) : State := { s with pending := v }
def State.setOut (s : State) (v : List Report) : State := { s with out := v }

/-- `clear_pixels()` (R31). -/
def clearPixels (s : State) : State := s.setPx (Vector.replicate 8 Pixel.default)

/-- `init_defaults()` (R32); `dcache` is not part of the model and keeps its value. -/
def initDefaults (s : State) : State :=
  clearPixels (((((s.setLtr true).setOn true).setHold false).setBin false).setBmask 0xFF#8)

/-- Gives out a report, and lets its pin requests take effect (R23, R89). -/
def State.report (s : State) (r : Report) (events : List Event) : State :=
  (s.setPins (pinsAfter s.pins events)).setOut (s.out ++ [r])

/-- Ends a command's step without a render (R79, R85). -/
def finishQuiet (changed : Bool) (events : List Event) (s1 : State) : State :=
  s1.report (.cmd ⟨.ok, changed, false⟩ events) events

/-- Ends a command's step with a render of `s1` (R79, R85, R133): only `dcache` changes with it. -/
def finishRendered (s1 : State) : State :=
  (s1.setDcache (render s1).1).report (.cmd ⟨.ok, true, true⟩ (render s1).2) (render s1).2

/-- The state at the end of the step of a command with `changed = 1`: rendered when the holding flag AFTER
the command is 0 (R84, R85). -/
def finish (s1 : State) : State := if s1.hold then finishQuiet true [] s1 else finishRendered s1

/-- Ends the step of a command with `changed = 1`. -/
def commit (s1 : State) : Outcome := .next (finish s1)

/-- Ends the step of a command with `changed = 0` (R84): its own events, no render. -/
def complete (events : List Event) (s1 : State) : Outcome := .next (finishQuiet false events s1)

/-- The state at the end of a step in error (R87, R149): as before the command, with the code reported. -/
def errorState (e : Err) (s : State) : State := s.report (.cmd ⟨e, false, false⟩ []) []

/-- `raise E(info)` (R149). -/
def raise (e : Err) (s : State) : Outcome := .next (errorState e s)

/-- The model fields of an image, written in one step (R94). -/
def loadFields (img : Image) (s : State) : State :=
  (((((s.setLtr (flagLtr img[0])).setOn (flagOn img[0])).setHold (flagHold img[0])).setBin
    (flagBin img[0])).setBmask img[1]).setPx (imagePixels img)

/-- `LOAD_IMAGE(image, ok)`: all of a valid image, or the defaults and `recovered = 1` (R94, R95). -/
def loadImage (img : Image) (ok : Bool) (s : State) : State :=
  if ok then (loadFields img s).report (.load ⟨.ok, false⟩) []
  else (initDefaults s).report (.load ⟨.ok, true⟩) []

/-- `Reset(S)` (R165): the defaults, `dcache` UNSET, the pins' levels unknown again (R167), no report. -/
def doReset (s : State) : State :=
  ((initDefaults s).setDcache .unset).setPins ⟨.unknown, .unknown⟩

end Sys2Proof.Machine
end

