-- ==== Sys2Proof/Machine/BinaryCommands.lean ====
section
/-! DEFINITION. The binary-overlay commands (44_binary_commands.md R123, R124). -/

namespace Sys2Proof.Machine

/-- `BINOFF`: `bin` to 0, `bmask` kept (R123). -/
def execBinoff (_m : SelField) (s : State) : Outcome :=
  commit (s.setBin false)

/-- `BINARY`: `bin` to 1 and `bmask` to `Dir(A0) | ~sel` (R124). -/
def execBinary (m : SelField) (a0 : Byte) (s : State) : Outcome :=
  commit ((s.setBin true).setBmask (dir s a0 ||| ~~~(selection s m)))

end Sys2Proof.Machine
end

