-- ==== Sys2Proof/Machine/FlagCommands.lean ====
section
/-! DEFINITION. The flag commands (42_flag_commands.md R100 to R106). All are of format N: the selection is not read (R82). -/

namespace Sys2Proof.Machine

/-- `OFF`: `on` to 0, `hold` kept (R100). -/
def execOff (_m : SelField) (s : State) : Outcome :=
  commit (s.setOn false)

/-- `ON`: `on` to 1, `hold` to 0 (R101). -/
def execOn (_m : SelField) (s : State) : Outcome :=
  commit ((s.setOn true).setHold false)

/-- `LEFT`: `ltr` to 1; nothing is reordered (R102). -/
def execLeft (_m : SelField) (s : State) : Outcome :=
  commit (s.setLtr true)

/-- `RIGHT`: `ltr` to 0 (R103). -/
def execRight (_m : SelField) (s : State) : Outcome :=
  commit (s.setLtr false)

/-- `HOLD`: `hold` to 1, so no render (R104). -/
def execHold (_m : SelField) (s : State) : Outcome :=
  commit (s.setHold true)

/-- `SHOW`: `hold` to 0, so it renders (R105). -/
def execShow (_m : SelField) (s : State) : Outcome :=
  commit (s.setHold false)

/-- `CLEAR`: the defaults except `ltr` (R106). -/
def execClear (_m : SelField) (s : State) : Outcome :=
  commit (clearPixels ((((s.setOn true).setHold false).setBin false).setBmask 0xFF#8))

end Sys2Proof.Machine
end

