-- ==== Sys2Proof/Machine/MiscCommands.lean ====
section
/-! DEFINITION. The commands that change nothing (46_misc_commands.md R130 to R132): they complete with
`changed = 0`. -/

namespace Sys2Proof.Machine

/-- `NOP` (R130). -/
def execNop (_m : SelField) (s : State) : Outcome :=
  complete [] s

/-- `DELAY`: the wait is the event alone (R131). -/
def execDelay (_m : SelField) (ms : BitVec 32) (s : State) : Outcome :=
  complete [.delay ms] s

/-- `STATE`: the image of the state as an event (R132). -/
def execState (_m : SelField) (s : State) : Outcome :=
  complete [.readout (image s)] s

end Sys2Proof.Machine
end

