-- ==== Sys2Proof/Machine/PixelCommands.lean ====
section
/-! DEFINITION. The selection-masked pixel commands (43_pixel_commands.md R107 to R122). -/

namespace Sys2Proof.Machine

/-- The common rule of the 13 colour commands: the channels of every selected pixel become the triple of
the colour (R109). -/
def paint (c : ColorName) (m : SelField) (s : State) : Outcome :=
  commit (s.setPx (masked (selection s m)
    (withColor (Config.colorRgb c).r (Config.colorRgb c).g (Config.colorRgb c).b) s.px))

/-- `BRIGHT`: the whole brightness byte of every selected pixel, or `ERR_RANGE` above 31 (R107). -/
def execBright (m : SelField) (a0 : Byte) (s : State) : Outcome :=
  if 31 < a0.toNat then raise (.range a0.toNat) s
  else commit (s.setPx (masked (selection s m) (withBrightness a0) s.px))

/-- `RGB`: the three channels of every selected pixel (R108). -/
def execRgb (m : SelField) (r g b : Byte) (s : State) : Outcome :=
  commit (s.setPx (masked (selection s m) (withColor r g b) s.px))

/-- `RED` (R110). -/
def execRed (m : SelField) (s : State) : Outcome :=
  paint .red m s

/-- `CORAL` (R111). -/
def execCoral (m : SelField) (s : State) : Outcome :=
  paint .coral m s

/-- `ORANGE` (R112). -/
def execOrange (m : SelField) (s : State) : Outcome :=
  paint .orange m s

/-- `GOLD` (R113). -/
def execGold (m : SelField) (s : State) : Outcome :=
  paint .gold m s

/-- `YELLOW` (R114). -/
def execYellow (m : SelField) (s : State) : Outcome :=
  paint .yellow m s

/-- `LIME` (R115). -/
def execLime (m : SelField) (s : State) : Outcome :=
  paint .lime m s

/-- `GREEN` (R116). -/
def execGreen (m : SelField) (s : State) : Outcome :=
  paint .green m s

/-- `AQUA` (R117). -/
def execAqua (m : SelField) (s : State) : Outcome :=
  paint .aqua m s

/-- `BLUE` (R118). -/
def execBlue (m : SelField) (s : State) : Outcome :=
  paint .blue m s

/-- `PURPLE` (R119). -/
def execPurple (m : SelField) (s : State) : Outcome :=
  paint .purple m s

/-- `PINK` (R120). -/
def execPink (m : SelField) (s : State) : Outcome :=
  paint .pink m s

/-- `WHITE` (R121). -/
def execWhite (m : SelField) (s : State) : Outcome :=
  paint .white m s

/-- `BLACK` (R122). -/
def execBlack (m : SelField) (s : State) : Outcome :=
  paint .black m s

end Sys2Proof.Machine
end

