-- ==== Sys2Proof/Machine/RotateCommands.lean ====
section
/-! DEFINITION. The rotations (45_rotate_commands.md R126 to R129): of the mask when `bin` is set, else of the
pixel array. The selection is not read. -/

namespace Sys2Proof.Machine

/-- `ROTIN` (R126). -/
def execRotin (_m : SelField) (s : State) : Outcome :=
  commit (if s.bin then s.setBmask (maskIn s.bmask) else s.setPx (pixIn s.px))

/-- `ROTOUT` (R127). -/
def execRotout (_m : SelField) (s : State) : Outcome :=
  commit (if s.bin then s.setBmask (maskOut s.bmask) else s.setPx (pixOut s.px))

/-- `ROTLEFT`: on pixels, toward logical index 0 for either `ltr` (R128). -/
def execRotleft (_m : SelField) (s : State) : Outcome :=
  commit (if s.bin then s.setBmask (rotl8 s.bmask)
    else if s.ltr then s.setPx (shiftDown s.px) else s.setPx (shiftUp s.px))

/-- `ROTRIGHT`: the inverse of `ROTLEFT` (R129). -/
def execRotright (_m : SelField) (s : State) : Outcome :=
  commit (if s.bin then s.setBmask (rotr8 s.bmask)
    else if s.ltr then s.setPx (shiftUp s.px) else s.setPx (shiftDown s.px))

end Sys2Proof.Machine
end

