-- ==== Sys2Proof/Machine/Dispatch.lean ====
section
/-! DEFINITION. `Exec` of 40_command_cycle.md R79 with the end of the step: one arm per command. -/

namespace Sys2Proof.Machine

def exec (i : Instr) (s : State) : Host.Outcome State Fault Refusal :=
  match i with
  | .nop m => Sys2Proof.Machine.execNop m s
  | .off m => Sys2Proof.Machine.execOff m s
  | .on m => Sys2Proof.Machine.execOn m s
  | .left m => Sys2Proof.Machine.execLeft m s
  | .right m => Sys2Proof.Machine.execRight m s
  | .hold m => Sys2Proof.Machine.execHold m s
  | .showCmd m => Sys2Proof.Machine.execShow m s
  | .clear m => Sys2Proof.Machine.execClear m s
  | .bright m a0 => Sys2Proof.Machine.execBright m a0 s
  | .rgb m r g b => Sys2Proof.Machine.execRgb m r g b s
  | .binoff m => Sys2Proof.Machine.execBinoff m s
  | .binary m a0 => Sys2Proof.Machine.execBinary m a0 s
  | .delay m ms => Sys2Proof.Machine.execDelay m ms s
  | .rotin m => Sys2Proof.Machine.execRotin m s
  | .rotout m => Sys2Proof.Machine.execRotout m s
  | .rotleft m => Sys2Proof.Machine.execRotleft m s
  | .rotright m => Sys2Proof.Machine.execRotright m s
  | .state m => Sys2Proof.Machine.execState m s
  | .red m => Sys2Proof.Machine.execRed m s
  | .coral m => Sys2Proof.Machine.execCoral m s
  | .orange m => Sys2Proof.Machine.execOrange m s
  | .gold m => Sys2Proof.Machine.execGold m s
  | .yellow m => Sys2Proof.Machine.execYellow m s
  | .lime m => Sys2Proof.Machine.execLime m s
  | .green m => Sys2Proof.Machine.execGreen m s
  | .aqua m => Sys2Proof.Machine.execAqua m s
  | .blue m => Sys2Proof.Machine.execBlue m s
  | .purple m => Sys2Proof.Machine.execPurple m s
  | .pink m => Sys2Proof.Machine.execPink m s
  | .white m => Sys2Proof.Machine.execWhite m s
  | .black m => Sys2Proof.Machine.execBlack m s

end Sys2Proof.Machine
end

