-- ==== Sys2Proof/Machine/Transact.lean ====
section
/-! DEFINITION. The three transactions (40_command_cycle.md R78): a command word decoded and run (R79),
an image load, and reset. -/

namespace Sys2Proof.Machine

/-- `Step(S, Cmd(w))` (R79): a decode error ends the step with its code (R55, R87). -/
def command (w : CmdWord) (s : State) : Outcome :=
  match decode w with
  | .error e => raise e s
  | .ok i => exec i s

/-- One transaction, performed as one atomic step (R78, R40). -/
def transact (t : Transaction) (s : State) : Outcome :=
  match t with
  | .cmd w => command w s
  | .loadImage img ok => .next (loadImage img ok s)
  | .reset => .next (doReset s)

/-- Takes the oldest presented transaction and performs it (R43).  With none presented the block does
nothing (log entry 3). -/
def takeNext (s : State) : Outcome :=
  match s.pending with
  | [] => .next s
  | t :: rest => transact t (s.setPending rest)

/-- Presents a transaction as the very next one. -/
def present (t : Transaction) (s : State) : State := s.setPending (t :: s.pending)

end Sys2Proof.Machine
end

