-- ==== Sys2Proof/Machine/Step.lean ====
section
/-! DEFINITION. One step of the block, and how the host's instruction word is placed for it. -/

namespace Sys2Proof.Machine

/-- One step: one transaction (R43, R79). -/
def step (s : State) : Host.Outcome State Fault Refusal := takeNext s

/-- `s` with the command word whose low `nbits` bits are those of `w`, the others zero, presented as the
next transaction.  The block fetches nothing (20_memory.md R45): its commands are what the host presents
(log entry 6). -/
def State.withFetchWord (s : State) (nbits w : Nat) : State :=
  present (.cmd (BitVec.ofNat 48 (w % 2 ^ nbits))) s

end Sys2Proof.Machine
end

