-- ==== Sys2Proof/Machine/Transcribe.lean ====
section
/-! DEFINITION. The transcriber: the host-side translation of directive text into a command word
(30_encoding.md R59 to R77). It is outside the block (00_scope.md R4); the block sees only its words. -/

namespace Sys2Proof.Machine

/-- One token of an invocation. -/
abbrev Token := List Char

/-- The value of a digit in base `base`, 2 to 16; hex digits in either case (R61, R62). -/
def digitValue (base : Nat) (c : Char) : Option Nat :=
  let v :=
    if '0' ≤ c ∧ c ≤ '9' then some (c.toNat - 48)
    else if 'a' ≤ c ∧ c ≤ 'f' then some (c.toNat - 87)
    else if 'A' ≤ c ∧ c ≤ 'F' then some (c.toNat - 55)
    else none
  v.filter fun n => n < base

/-- An unsigned numeral continued from the value `acc`; refused at the first character that is no digit. -/
def numeralFrom (base : Nat) (acc : Nat) : List Char → Option Nat
  | [] => some acc
  | c :: cs =>
    match digitValue base c with
    | none => none
    | some d => numeralFrom base (acc * base + d) cs

/-- An unsigned numeral of at least one digit (R61, R62). -/
def numeral (base : Nat) (cs : List Char) : Option Nat :=
  match cs with
  | [] => none
  | _ :: _ => numeralFrom base 0 cs

/-- A decimal digit. -/
def isDecimal (c : Char) : Bool := (digitValue 10 c).isSome

/-- The digit alphabet that follows a prefix letter in `is_numeric_token` (R60). -/
def startsNotation (p c : Char) : Bool :=
  if p = 'b' then (digitValue 2 c).isSome
  else if p = 'd' then (digitValue 10 c).isSome
  else if p = 'x' then (digitValue 16 c).isSome
  else if p = 'p' then (digitValue 8 c).isSome
  else false

/-- `is_numeric_token(t)` (R60): only the first one or two characters are examined. -/
def isNumericToken (t : Token) : Bool :=
  match t with
  | [] => false
  | [c] => isDecimal c
  | c :: d :: _ => isDecimal c || startsNotation c d

/-- Pixel notation (R63): `1 << (7 - n)` for a decimal index `n` in 0..7. -/
def pixelNotation (cs : List Char) : Option Nat :=
  match numeral 10 cs with
  | none => none
  | some n => if n ≤ 7 then some (2 ^ (7 - n)) else none

/-- The clamped, unwrapped value of a numeric token (R61 to R64); none when the token is refused (R66). -/
def parseValue (t : Token) (defaultBase : Nat) : Option Nat :=
  match t with
  | [] => none
  | c :: cs =>
    if isDecimal c then numeral defaultBase t
    else if c = 'b' then numeral 2 cs
    else if c = 'd' then numeral 10 cs
    else if c = 'x' then numeral 16 cs
    else if c = 'p' then pixelNotation cs
    else if c = '-' then (numeral defaultBase cs).map fun _ => 0
    else none

/-- `parse_number(token, default_base)`: the value wrapped to 8 bits (R65). -/
def parseNumber (t : Token) (defaultBase : Nat) : Option Byte :=
  (parseValue t defaultBase).map fun v => BitVec.ofNat 8 v

/-- The directive names of R59; `hostText` are the four that print on the host (R75). -/
inductive Directive where
  | plain (command : SelField → Instr)
  | bright | rgb | binary | delay | rotate | hostText

/-- The directive names with what each stands for, in the order of R59. -/
def directiveTable : List (Token × Directive) :=
  [(['o', 'f', 'f'], .plain .off),
   (['o', 'n'], .plain .on),
   (['l', 'e', 'f', 't'], .plain .left),
   (['r', 'i', 'g', 'h', 't'], .plain .right),
   (['h', 'o', 'l', 'd'], .plain .hold),
   (['s', 'h', 'o', 'w'], .plain .showCmd),
   (['c', 'l', 'e', 'a', 'r'], .plain .clear),
   (['b', 'r', 'i', 'g', 'h', 't'], .bright),
   (['r', 'g', 'b'], .rgb),
   (['b', 'i', 'n', 'a', 'r', 'y'], .binary),
   (['d', 'e', 'l', 'a', 'y'], .delay),
   (['r', 'o', 't', 'a', 't', 'e'], .rotate),
   (['s', 't', 'a', 't', 'e'], .plain .state),
   (['v', 'e', 'r', 's', 'i', 'o', 'n'], .hostText),
   (['h', 'e', 'l', 'p'], .hostText),
   (['m', 'a', 'n', '-', 'p', 'a', 'g', 'e'], .hostText),
   (['l', 'i', 'c', 'e', 'n', 's', 'e'], .hostText),
   (['r', 'e', 'd'], .plain .red),
   (['c', 'o', 'r', 'a', 'l'], .plain .coral),
   (['o', 'r', 'a', 'n', 'g', 'e'], .plain .orange),
   (['g', 'o', 'l', 'd'], .plain .gold),
   (['y', 'e', 'l', 'l', 'o', 'w'], .plain .yellow),
   (['l', 'i', 'm', 'e'], .plain .lime),
   (['g', 'r', 'e', 'e', 'n'], .plain .green),
   (['a', 'q', 'u', 'a'], .plain .aqua),
   (['b', 'l', 'u', 'e'], .plain .blue),
   (['p', 'u', 'r', 'p', 'l', 'e'], .plain .purple),
   (['p', 'i', 'n', 'k'], .plain .pink),
   (['w', 'h', 'i', 't', 'e'], .plain .white),
   (['b', 'l', 'a', 'c', 'k'], .plain .black)]

/-- The directive of a name, matched exactly (R59, R68); none for an unknown name (R74). -/
def directiveOf (t : Token) : Option Directive := directiveTable.lookup t

/-- What the transcriber answers: one command word, host text only (R75), or an error with no word (R77). -/
inductive Transcription where
  | word (w : CmdWord)
  | hostText
  | failed (e : Err)
deriving DecidableEq, Repr

/-- A numeric argument in default base 10 (R69), at token position `pos`: a parse refusal comes before a
range error (R153), and the range is checked on the unwrapped value (R70). -/
def argument (limit : Nat) (pos : Nat) (t : Token) : Except Err Nat :=
  match parseValue t 10 with
  | none => .error (.operand pos)
  | some v => if v < limit then .ok v else .error (.range v)

/-- An `rgb` argument: a missing one is 0 (R71). -/
def rgbArgument (args : List Token) (k pos : Nat) : Except Err Nat :=
  match args[k]? with
  | none => .ok 0
  | some t => argument 256 (pos + k) t

/-- The command of `rgb` with its arguments; the first failing one is reported (R153). -/
def rgbCommand (m : SelField) (pos : Nat) (args : List Token) : Except Err Instr :=
  match rgbArgument args 0 pos with
  | .error e => .error e
  | .ok r =>
    match rgbArgument args 1 pos with
    | .error e => .error e
    | .ok g =>
      match rgbArgument args 2 pos with
      | .error e => .error e
      | .ok b => .ok (.rgb m (BitVec.ofNat 8 r) (BitVec.ofNat 8 g) (BitVec.ofNat 8 b))

/-- The command of `binary`: exactly `off`, or a mask that wraps (R65, R72). -/
def binaryCommand (m : SelField) (pos : Nat) (t : Token) : Except Err Instr :=
  if t = ['o', 'f', 'f'] then .ok (.binoff m)
  else
    match parseNumber t 10 with
    | none => .error (.operand pos)
    | some v => .ok (.binary m v)

/-- The command of `rotate` (R73). -/
def rotateCommand (m : SelField) (pos : Nat) (t : Token) : Except Err Instr :=
  if t = ['i', 'n'] then .ok (.rotin m)
  else if t = ['o', 'u', 't'] then .ok (.rotout m)
  else if t = ['l', 'e', 'f', 't'] then .ok (.rotleft m)
  else if t = ['r', 'i', 'g', 'h', 't'] then .ok (.rotright m)
  else .error (.operand pos)

/-- The command of a directive with its arguments, the first of which stands at position `pos`; none for
host text.  A missing argument is an error but for `rgb`; extra tokens are ignored (R71).  DESIGN CHOICE: the
error of a MISSING argument records `pos`, the position where the argument would stand; R148 records "the
token position" and there is no such token (assumption log entry 21). -/
def directiveCommand (m : SelField) (pos : Nat) (d : Directive) (args : List Token) :
    Option (Except Err Instr) :=
  match d, args with
  | .hostText, _ => none
  | .plain c, _ => some (.ok (c m))
  | .rgb, _ => some (rgbCommand m pos args)
  | .bright, [] => some (.error (.operand pos))
  | .bright, t :: _ => some ((argument 32 pos t).map fun v => .bright m (BitVec.ofNat 8 v))
  | .binary, [] => some (.error (.operand pos))
  | .binary, t :: _ => some (binaryCommand m pos t)
  | .delay, [] => some (.error (.operand pos))
  | .delay, t :: _ => some ((argument (2 ^ 32) pos t).map fun v => .delay m (BitVec.ofNat 32 v))
  | .rotate, [] => some (.error (.operand pos))
  | .rotate, t :: _ => some (rotateCommand m pos t)

/-- An invocation after its selection; its first token stands at position `pos` (R74, R75). -/
def transcribeDirective (m : SelField) (pos : Nat) (ts : List Token) : Transcription :=
  match ts with
  | [] => .hostText
  | name :: args =>
    match directiveOf name with
    | none => .failed (.unknownName pos)
    | some d =>
      match directiveCommand m (pos + 1) d args with
      | none => .hostText
      | some (.error e) => .failed e
      | some (.ok i) => .word (encode i)

/-- The transcription of an invocation (R67, R77): a leading numeric token is the selection, parsed in
default base 2 and left in user order. -/
def transcribe (ts : List Token) : Transcription :=
  match ts with
  | [] => .hostText
  | t :: rest =>
    if isNumericToken t then
      match parseNumber t 2 with
      | none => .failed (.operand 0)
      | some v => transcribeDirective ⟨true, v⟩ 1 rest
    else transcribeDirective ⟨false, 0⟩ 0 ts

end Sys2Proof.Machine
end

