-- ==== Sys2Proof/Machine/Persist.lean ====
section
/-! DEFINITION. The host's persisted file (41_state_port.md R97 to R99): its text for a state, and the
image and validity bit that the host presents for a text. Outside the block (20_memory.md R35). -/

namespace Sys2Proof.Machine

/-- Canonical decimal: no sign, no leading zeros (R97). -/
def decimal (n : Nat) : List Char := Nat.toDigits 10 n

/-- A line with its newline. -/
def line (cs : List Char) : List Char := cs ++ ['\n']

/-- The text of a boolean line other than the first (R97). -/
def onOff (v : Bool) : List Char := if v then ['o', 'n'] else ['o', 'f', 'f']

/-- A pixel line: brightness, blue, green, red, single spaces (R97). -/
def pixelLine (p : Pixel) : List Char :=
  decimal p.br.toNat ++ ' ' :: (decimal p.b.toNat ++ ' ' :: (decimal p.g.toNat ++ ' ' :: decimal p.r.toNat))

/-- The 13 lines of the file of a state (R97). -/
def fileLines (s : State) : List (List Char) :=
  [if s.ltr then ['l', 'e', 'f', 't'] else ['r', 'i', 'g', 'h', 't'],
   onOff s.on, onOff s.hold, onOff s.bin, decimal s.bmask.toNat] ++ s.px.toList.map pixelLine

/-- The persisted file of a state (R97, R99). -/
def saveFile (s : State) : List Char := (fileLines s).flatMap line

/-- The pieces of a text that end at the separator; an unended last piece is dropped. -/
def endedPieces (sep : Char) (piece : List Char) : List Char → List (List Char)
  | [] => []
  | c :: cs =>
    if c = sep then piece :: endedPieces sep [] cs
    else endedPieces sep (piece ++ [c]) cs

/-- The lines of a file (log entry 10: a last line without its newline is short). -/
def linesOf (file : List Char) : List (List Char) := endedPieces '\n' [] file

/-- The fields of a line: its pieces between spaces, empty ones dropped (log entry 10).  DESIGN CHOICE: no other
white space separates fields, so a tab or a carriage return makes its field malformed (log entry 22). -/
def wordsOf (cs : List Char) : List (List Char) :=
  (endedPieces ' ' [] (cs ++ [' '])).filter fun p => p ≠ []

/-- An integer of the file, 0..255 (R98).  DESIGN CHOICE: digits only, so a signed numeral is malformed also
where its value lies in 0..255, such as `+7` and `-0` (log entry 22). -/
def fileInteger (cs : List Char) : Option Byte :=
  match numeral 10 cs with
  | none => none
  | some n => if n < 256 then some (BitVec.ofNat 8 n) else none

/-- A pixel line read back: exactly four integers (R97, R98). -/
def readPixelLine (cs : List Char) : Option Pixel :=
  match wordsOf cs with
  | [a, b, c, d] =>
    match fileInteger a, fileInteger b, fileInteger c, fileInteger d with
    | some br, some b, some g, some r => some ⟨br, r, g, b⟩
    | _, _, _, _ => none
  | _ => none

/-- The `mask` line read back: exactly one integer. -/
def readMaskLine (cs : List Char) : Option Byte :=
  match wordsOf cs with
  | [a] => fileInteger a
  | _ => none

/-- Pixel lines read back, the first that is malformed refusing all. -/
def readPixelLines : List (List Char) → Option (List Pixel)
  | [] => some []
  | l :: ls =>
    match readPixelLine l, readPixelLines ls with
    | some p, some ps => some (p :: ps)
    | _, _ => none

/-- FLAGS of the four boolean lines: exactly the word of the format is 1, any other line 0 (R98). -/
def readFlags (l1 l2 l3 l4 : List Char) : Byte :=
  (0#4) ++ BitVec.ofBool (l4 = ['o', 'n']) ++ BitVec.ofBool (l3 = ['o', 'n']) ++
    BitVec.ofBool (l2 = ['o', 'n']) ++ BitVec.ofBool (l1 = ['l', 'e', 'f', 't'])

/-- The image of FLAGS, mask and pixels in the layout of R34. -/
def imageOfParts (flags mask : Byte) (ps : List Pixel) (h : ps.length = 8) : Image :=
  Vector.ofFn fun k =>
    if k.val = 0 then flags
    else if k.val = 1 then mask
    else pixelByte (ps[(k.val - 2) / 4]'(by omega)) ((k.val - 2) % 4)

/-- The image of a file, or none when it is missing a line or an integer, malformed or short (R98). -/
def readFile (file : List Char) : Option Image :=
  match linesOf file with
  | l1 :: l2 :: l3 :: l4 :: l5 :: rest =>
    match readMaskLine l5, readPixelLines (rest.take 8) with
    | some mask, some ps =>
      if h : ps.length = 8 then some (imageOfParts (readFlags l1 l2 l3 l4) mask ps h) else none
    | _, _ => none
  | _ => none

/-- The transaction the host presents for an existing file (R94, R95, R98); the image bytes beside
`ok = 0` are not read by the block. -/
def loadTransaction (file : List Char) : Transaction :=
  match readFile file with
  | some img => .loadImage img true
  | none => .loadImage (Vector.replicate 34 0) false

end Sys2Proof.Machine
end

