-- ==== Sys2Proof/Machine/HostRun.lean ====
section
/-! DEFINITION. One run of the source's process in the boot order of 70_reset_and_hazards.md R168: reset,
load if a store exists, at most one command, save if it changed the state. Outside the block. -/

namespace Sys2Proof.Machine

/-- The transactions of one run, in order (R168): the store is absent (R96) or a file's text. -/
def bootTransactions (store : Option (List Char)) (args : List Token) : List Transaction :=
  .reset :: ((store.map loadTransaction).toList ++
    (match transcribe args with
     | .word w => [.cmd w]
     | .hostText => []
     | .failed _ => []))

/-- Presents transactions behind those already presented (R43). -/
def presentAll (ts : List Transaction) (s : State) : State := s.setPending (s.pending ++ ts)

/-- The store after a step with report `r` that left state `s` (R88, R99). -/
def storeAfter (store : Option (List Char)) (r : Option Report) (s : State) : Option (List Char) :=
  match r with
  | some (.cmd st _) => if st.changed then some (saveFile s) else store
  | some (.load _) => store
  | none => store

/-- The outcome of performing transactions one after another. -/
def performAll : List Transaction → State → Outcome
  | [], s => .next s
  | t :: ts, s =>
    match transact t s with
    | .next s' => performAll ts s'
    | .fault r => .fault r
    | .refused r => .refused r

/-- One run of the process (R168): the block's state and the store afterwards.  Only a report of this run
decides whether the store is written. -/
def runInvocation (store : Option (List Char)) (args : List Token) (s : State) :
    Option (State × Option (List Char)) :=
  match performAll (bootTransactions store args) s with
  | .next s' => some (s', storeAfter store (s'.out.drop s.out.length).getLast? s')
  | .fault _ => none
  | .refused _ => none

end Sys2Proof.Machine
end

