-- ==== Sys2Proof/Machine/Listing.lean ====
section
/-! DEFINITION. The listing form of a command word (30_encoding.md R58), used to show words. -/

namespace Sys2Proof.Machine

/-- One hexadecimal digit, upper case. -/
def hexDigit (n : Nat) : Char := if n < 10 then Char.ofNat (48 + n) else Char.ofNat (55 + n)

/-- `n` hexadecimal digits of a value, most significant first. -/
def hexDigits (digits : Nat) (v : Nat) : List Char :=
  (List.range digits).reverse.map fun k => hexDigit (v / 16 ^ k % 16)

/-- The mnemonic of a command (R49). -/
def mnemonicOf : Instr → String
  | .nop _ => "NOP"
  | .off _ => "OFF"
  | .on _ => "ON"
  | .left _ => "LEFT"
  | .right _ => "RIGHT"
  | .hold _ => "HOLD"
  | .showCmd _ => "SHOW"
  | .clear _ => "CLEAR"
  | .bright _ _ => "BRIGHT"
  | .rgb _ _ _ _ => "RGB"
  | .binoff _ => "BINOFF"
  | .binary _ _ => "BINARY"
  | .delay _ _ => "DELAY"
  | .rotin _ => "ROTIN"
  | .rotout _ => "ROTOUT"
  | .rotleft _ => "ROTLEFT"
  | .rotright _ => "ROTRIGHT"
  | .state _ => "STATE"
  | .red _ => "RED"
  | .coral _ => "CORAL"
  | .orange _ => "ORANGE"
  | .gold _ => "GOLD"
  | .yellow _ => "YELLOW"
  | .lime _ => "LIME"
  | .green _ => "GREEN"
  | .aqua _ => "AQUA"
  | .blue _ => "BLUE"
  | .purple _ => "PURPLE"
  | .pink _ => "PINK"
  | .white _ => "WHITE"
  | .black _ => "BLACK"

/-- The operands of a command, in the order of R54. -/
def operandsOf : Instr → List Nat
  | .bright _ a0 => [a0.toNat]
  | .rgb _ r g b => [r.toNat, g.toNat, b.toNat]
  | .binary _ a0 => [a0.toNat]
  | .delay _ ms => [ms.toNat]
  | .nop _ | .off _ | .on _ | .left _ | .right _ | .hold _ | .showCmd _ | .clear _ | .binoff _ => []
  | .rotin _ | .rotout _ | .rotleft _ | .rotright _ | .state _ => []
  | .red _ | .coral _ | .orange _ | .gold _ | .yellow _ | .lime _ | .green _ | .aqua _ | .blue _ => []
  | .purple _ | .pink _ | .white _ | .black _ => []

/-- The listing of a command: `[sel=0xHH] MNEMONIC [operands]`, the selection exactly when `SP = 1` and in
user order, operands in decimal separated by commas (R58). -/
def listing (i : Instr) : List Char :=
  (if i.selField.sp then ['s', 'e', 'l', '=', '0', 'x'] ++ hexDigits 2 i.selField.sel.toNat ++ [' '] else []) ++
    (mnemonicOf i).toList ++
    (match operandsOf i with
     | [] => []
     | ns => ' ' :: [',', ' '].intercalate (ns.map decimal))

/-- A word as 12 hex digits (R58). -/
def wordListing (w : CmdWord) : List Char := ['0', 'x'] ++ hexDigits 12 w.toNat

end Sys2Proof.Machine
end

