-- ==== Sys2Proof/Safety.lean ====
section
/-! DEFINITION. What the statements call a safe state and a safe run: the pins agree with the
data-level cache, and the block never stops. -/

namespace Sys2Proof

open Sys2Proof.Machine

/-- The pin level that a cache value records: `UNSET` is the level unknown to the block (10_state.md
R22, R23). -/
def Machine.DLevel.pin : DLevel → PinLevel
  | .unset => .unknown
  | .l0 => .low
  | .l1 => .high

/-- The serializer's invariant between steps: the data pin stands at the cached level, which is never L1
(47_render.md R146); the clock idles low once it has been driven (R144), and it has been driven exactly
when the cache is set. -/
abbrev Machine.State.PinInv (s : State) : Prop :=
  s.pins.data = s.dcache.pin ∧ s.dcache ≠ .l1 ∧
    (s.dcache = .unset → s.pins.clock = .unknown) ∧ (s.dcache ≠ .unset → s.pins.clock = .low)

/-- A run of `k` steps that reaches a state without a fault or a refusal. -/
abbrev SafeRun (k : Nat) (s : State) : Prop := ∃ t, Host.Core.run
  { State := State, Fault := Fault, Refusal := Refusal, step := step, reset := State.reset } k s = .next t

end Sys2Proof
end

