-- ==== Sys2Proof/Certificates/Slice0/Obligations.lean ====
section
/-! DEFINITION. The statements for the provers. Each docstring names the rule of spec/ it formalises.
Two fields of State are the model's own and are how a statement speaks of a step's input and output:
`pending` (assumption log entry 3) and `out` (entry 4); the pins' levels follow 10_state.md R23. -/

open Sys2Proof Sys2Proof.Machine

namespace Sys2Proof.Claims

/-- The seven fields of R13's record are the same in both states. -/
def SameBlock (s t : State) : Prop :=
  t.px = s.px ∧ t.ltr = s.ltr ∧ t.on = s.on ∧ t.hold = s.hold ∧ t.bin = s.bin ∧ t.bmask = s.bmask ∧
    t.dcache = s.dcache

/-- The six model fields (R13 without `dcache`) are the same in both states. -/
def SameModel (s t : State) : Prop :=
  t.px = s.px ∧ t.ltr = s.ltr ∧ t.on = s.on ∧ t.hold = s.hold ∧ t.bin = s.bin ∧ t.bmask = s.bmask

/-- The six model fields are those that `init_defaults()` leaves (R29, R32). -/
def DefaultModel (t : State) : Prop :=
  t.ltr = true ∧ t.on = true ∧ t.hold = false ∧ t.bin = false ∧ t.bmask = 0xFF#8 ∧
    ∀ i : Fin 8, t.px[i] = ⟨7, 0, 0, 0⟩

/-- What a command with `changed = 1` leaves beside the six model fields, `s` being the state before it
and `t` the state after (R84, R85, R88, R89): no further transaction is consumed; while `hold` is set
afterwards nothing is sent and the cache keeps its value; otherwise one whole frame of `t` is sent, the
cache ends at L0 (R146), and the pins are where the frame's events put them. -/
def EndsChanged (s t : State) : Prop :=
  t.pending = s.pending ∧
  if t.hold then
    t.dcache = s.dcache ∧ t.pins = s.pins ∧ t.out = s.out ++ [.cmd ⟨.ok, true, false⟩ []]
  else
    t.dcache = .l0 ∧ t.pins = pinsAfter s.pins (sendBits s.dcache (frameBits Config.nEnd t)).2 ∧
      t.out = s.out ++ [.cmd ⟨.ok, true, true⟩ (sendBits s.dcache (frameBits Config.nEnd t)).2]

/-- What a command with `changed = 0` leaves (R84): everything but its own report. -/
def EndsUnchanged (events : List Event) (s t : State) : Prop :=
  SameBlock s t ∧ t.pins = s.pins ∧ t.pending = s.pending ∧
    t.out = s.out ++ [.cmd ⟨.ok, false, false⟩ events]

/-- An error (R87, R149): the state is unchanged, and the report carries the code and no events. -/
def EndsInError (e : Err) (s t : State) : Prop :=
  SameBlock s t ∧ t.pins = s.pins ∧ t.pending = s.pending ∧
    t.out = s.out ++ [.cmd ⟨e, false, false⟩ []]

/-- `SP` and `SEL` of a word (R47). -/
def selOf (w : CmdWord) : SelField := ⟨w.getLsbD 6, w.extractLsb' 8 8⟩

/-- The encoding and the exceptions that a command's rule gives: of the words with its `OP`, those that
match under its mask decode to the command with the word's fields, and every other ends with
`ERR_RESERVED`, code 2 (R48, R52). -/
def RowOf (op : BitVec 6) (mask : CmdWord) (command : CmdWord → Instr) : Prop :=
  ∀ w : CmdWord, w.extractLsb' 0 6 = op →
    if w &&& mask = op.setWidth 48 then decode w = .ok (command w)
    else ∃ e, decode w = .error e ∧ e.code = 2

/-- Bit `i` of a user-order mask seen in internal order (R80): mirrored exactly when `ltr` is set. -/
def internalBit (s : State) (mask : Byte) (i : Fin 8) : Bool :=
  if s.ltr then mask.getLsbD (7 - i.val) else mask.getLsbD i.val

/-- Whether pixel `i` is selected (R81). -/
def selected (s : State) (m : SelField) (i : Fin 8) : Bool := !m.sp || internalBit s m.sel i

/-- The index each record comes from under `rotate in` (R125, `PixIn`). -/
def inSource (i : Fin 8) : Fin 8 :=
  match i with
  | 0 => 3 | 1 => 0 | 2 => 1 | 3 => 2 | 4 => 5 | 5 => 6 | 6 => 7 | 7 => 4

/-- The index each record comes from under `rotate out` (R125, `PixOut`). -/
def outSource (i : Fin 8) : Fin 8 :=
  match i with
  | 0 => 1 | 1 => 2 | 2 => 3 | 3 => 0 | 4 => 7 | 5 => 4 | 6 => 5 | 7 => 6

/-- The index below, cyclically (R125, `Shift(P, +1)`). -/
def belowIndex (i : Fin 8) : Fin 8 := i + 7

/-- The index above, cyclically (R125, `Shift(P, -1)`). -/
def aboveIndex (i : Fin 8) : Fin 8 := i + 1

/-- The fields that a rotation may not touch are as before. -/
def SameFlags (s t : State) : Prop := t.ltr = s.ltr ∧ t.on = s.on ∧ t.hold = s.hold ∧ t.bin = s.bin

/-- A rotation: the records move by `pix` while `bin = 0`, the mask's bits move by `bit` while `bin = 1`. -/
def Rotated (pix bit : Fin 8 → Fin 8) (s t : State) : Prop :=
  (s.bin = false → t.bmask = s.bmask ∧ ∀ i : Fin 8, t.px[i] = s.px[pix i]) ∧
  (s.bin = true → t.px = s.px ∧
    ∀ i : Fin 8, t.bmask.getLsbD i.val = s.bmask.getLsbD (bit i).val)

/-- Each colour command with its `OP` and its colour, first part (R110 to R117). -/
def colorsA : List (BitVec 6 × (SelField → Instr) × ColorName) :=
  [(0x20#6, .red, .red), (0x21#6, .coral, .coral), (0x22#6, .orange, .orange), (0x23#6, .gold, .gold),
   (0x24#6, .yellow, .yellow), (0x25#6, .lime, .lime), (0x26#6, .green, .green), (0x27#6, .aqua, .aqua)]

/-- Each colour command with its `OP` and its colour, second part (R118 to R122). -/
def colorsB : List (BitVec 6 × (SelField → Instr) × ColorName) :=
  [(0x28#6, .blue, .blue), (0x29#6, .purple, .purple), (0x2A#6, .pink, .pink), (0x2B#6, .white, .white),
   (0x2C#6, .black, .black)]

/-- The result of a colour command (R109): the channels of every selected pixel become the triple of its
colour, whatever that triple is; brightness and everything else stay. -/
def PaintsSelected (c : ColorName) (m : SelField) (s t : State) : Prop :=
  (∀ i : Fin 8, t.px[i] = if selected s m i then
      ⟨s.px[i].br, (Config.colorRgb c).r, (Config.colorRgb c).g, (Config.colorRgb c).b⟩ else s.px[i]) ∧
  SameFlags s t ∧ t.bmask = s.bmask ∧ EndsChanged s t

/-- The level of the data pin at each rising edge of the clock, in order, starting from a level. -/
def sampled (level : PinLevel) : List Event → List PinLevel
  | [] => []
  | .setData v :: es => sampled (PinLevel.ofBit v) es
  | .setClock true :: es => level :: sampled level es
  | .setClock false :: es => sampled level es
  | .delay _ :: es => sampled level es
  | .readout _ :: es => sampled level es

/-- The values of the clock events, in order. -/
def clockValues (es : List Event) : List Bool :=
  es.filterMap fun e => match e with | .setClock v => some v | _ => none

/-- The values of the data events, in order. -/
def dataValues (es : List Event) : List Bool :=
  es.filterMap fun e => match e with | .setData v => some v | _ => none

/-- The number of positions whose bit differs from the level before it, the first compared with the
cache. -/
def toggles (d : DLevel) : List Bool → Nat
  | [] => 0
  | x :: xs => (if d = DLevel.ofBit x then 0 else 1) + toggles (DLevel.ofBit x) xs

/-- Every pixel's stored brightness has its reserved bits 7:5 zero (R15). -/
def BrightnessInRange (s : State) : Prop := ∀ i : Fin 8, s.px[i].br.toNat < 32

/-- Byte `j` of pixel `i`'s frame, by R136 and R140. -/
def wireByte (s : State) (i : Fin 8) (j : Fin 4) : Byte :=
  match j with
  | 0 => ctrl s i
  | 1 => s.px[i].b
  | 2 => s.px[i].g
  | 3 => s.px[i].r

end Sys2Proof.Claims

open Sys2Proof.Claims

/- ## The command word -/

/-- Every command survives encoding and decoding, with every value of every field (R47 to R49, R55). -/
def Obligations.DecodeOfEncode : Prop := ∀ i : Instr, decode (encode i) = .ok i

/-- No word is read as another word's command: a word that decodes is the encoding of what it decodes to,
the don't-care fields included. -/
def Obligations.EncodeOfDecode : Prop := ∀ (w : CmdWord) (i : Instr), decode w = .ok i → encode i = w

/-- R48: "A word matches an opcode when (w & mask) = OP for that opcode's format mask", and exactly the
words that match an opcode decode to its command. -/
def Obligations.WordMatchesRow : Prop :=
  ∀ (w : CmdWord) (op : BitVec 6),
    (∃ i, decode w = .ok i ∧ i.opcode = op) ↔
      ∃ fmt, formatOf op = some fmt ∧ w &&& fmt.mask = op.setWidth 48

/-- R50: the step of a word whose opcode is 0x12..0x1F or 0x2D..0x3F ends with `ERR_UNRECOGNIZED(OP)`. -/
def Obligations.ReservedOpcodeStep : Prop :=
  ∀ (s : State) (w : CmdWord) (rest : List Transaction), s.pending = .cmd w :: rest →
    ((0x12 ≤ (w.extractLsb' 0 6).toNat ∧ (w.extractLsb' 0 6).toNat ≤ 0x1F) ∨
      0x2D ≤ (w.extractLsb' 0 6).toNat) →
    ∃ t, step s = .next t ∧ EndsInError (.unrecognized (w.extractLsb' 0 6)) (s.setPending rest) t

/-- R51: an assigned opcode with bit 7 set ends with `ERR_RESERVED(7)`, whatever the other fields hold. -/
def Obligations.ReservedBitSevenStep : Prop :=
  ∀ (s : State) (w : CmdWord) (rest : List Transaction), s.pending = .cmd w :: rest →
    ((w.extractLsb' 0 6).toNat ≤ 0x11 ∨
      (0x20 ≤ (w.extractLsb' 0 6).toNat ∧ (w.extractLsb' 0 6).toNat ≤ 0x2C)) →
    w.getLsbD 7 = true →
    ∃ t, step s = .next t ∧ EndsInError (.reserved 7 7) (s.setPending rest) t

/-- R55: decoding, as the chain of checks in the order written, with the decoded fields when all pass. -/
def Obligations.DecodeCheckOrder : Prop :=
  ∀ (w : CmdWord) (op : BitVec 6), op = w.extractLsb' 0 6 →
    match formatOf op with
    | none => decode w = .error (.unrecognized op)
    | some fmt =>
      if w.getLsbD 7 = true then decode w = .error (.reserved 7 7)
      else if (fmt = .n ∨ fmt = .s) ∧ w.extractLsb' 16 32 ≠ 0 then decode w = .error (.reserved 47 16)
      else if fmt = .b1 ∧ w.extractLsb' 24 24 ≠ 0 then decode w = .error (.reserved 47 24)
      else if fmt = .b3 ∧ w.extractLsb' 40 8 ≠ 0 then decode w = .error (.reserved 47 40)
      else ∃ i, decode w = .ok i ∧ i.opcode = op ∧ i.format = fmt ∧
        i.selField = ⟨w.getLsbD 6, w.extractLsb' 8 8⟩ ∧
        i.operandBytes = ⟨w.extractLsb' 16 8, w.extractLsb' 24 8, w.extractLsb' 32 8, w.extractLsb' 40 8⟩

/-- A few words of 95_test_vectors.md decode to what they stand for (a sanity statement). -/
def Obligations.SampleWordsDecode : Prop :=
  decode 0x0000001FC048#48 = .ok (.bright ⟨true, 0xC0⟩ 31) ∧
  decode 0x000000FF8049#48 = .ok (.rgb ⟨true, 0x80⟩ 255 0 0) ∧
  decode 0x0000000F000B#48 = .ok (.binary ⟨false, 0⟩ 15) ∧
  decode 0x000001F4000C#48 = .ok (.delay ⟨false, 0⟩ 500) ∧
  decode 0x00000000804F#48 = .ok (.rotleft ⟨true, 0x80⟩) ∧
  decode 0x000000001061#48 = .ok (.coral ⟨true, 0x10⟩) ∧
  decode 0x000000000081#48 = .error (.reserved 7 7) ∧
  decode 0x0000000000BF#48 = .error (.unrecognized 0x3F#6)

/-- R37: on a byte-wide path byte `j` carries bits `8j+7 : 8j` of the word, the six bytes give the word
back, and `MS` of a `DELAY` is bits 47:16 of the word with bit 16 its least-significant bit. -/
def Obligations.WordBytesLittleEndian : Prop :=
  ∀ w : CmdWord, wordOfBytes (Vector.ofFn (wordByte w)) = w ∧
    (∀ (j : Fin 6) (k : Nat), k < 8 → (wordByte w j).getLsbD k = w.getLsbD (8 * j.val + k)) ∧
    ∀ (m : SelField) (ms : BitVec 32), decode w = .ok (.delay m ms) →
      ∀ k, k < 32 → ms.getLsbD k = w.getLsbD (16 + k)

/- ## The step -/

/-- R79: when the oldest presented transaction is a command word that decodes, the step is the
command run on the state with that transaction taken. -/
def Obligations.StepRunsDecoded : Prop :=
  ∀ (s : State) (w : CmdWord) (rest : List Transaction) (i : Instr),
    s.pending = .cmd w :: rest → decode w = .ok i → step s = exec i (s.setPending rest)

/-- The block never stops: every state has a next state (R11, R56). -/
def Obligations.EveryStepCompletes : Prop := ∀ s : State, ∃ t, step s = .next t

/-- R43: one step takes exactly the oldest presented transaction (with none, it changes nothing: the
model's choice, log entry 3) and adds at most one report behind those given before. -/
def Obligations.StepTakesOneTransaction : Prop :=
  ∀ s t : State, step s = .next t →
    t.pending = s.pending.tail ∧ (s.pending = [] → t = s) ∧
    (t.out = s.out ∨ ∃ r, t.out = s.out ++ [r])

/-- R87: a command step that reports an error leaves every state field unchanged, `dcache` and the pins
among them, reports `changed = 0` and `rendered = 0`, and emits nothing. -/
def Obligations.ErrorStepChangesNothing : Prop :=
  ∀ (s t : State) (w : CmdWord) (rest : List Transaction) (st : CmdStatus) (es : List Event),
    s.pending = .cmd w :: rest → step s = .next t → t.out = s.out ++ [.cmd st es] → st.err ≠ .ok →
    EndsInError st.err (s.setPending rest) t ∧ st.changed = false ∧ st.rendered = false ∧ es = []

/-- A command that decodes completes with `OK`, unless it is `BRIGHT` with an operand above 31, which is
the block's only range error (60_exceptions.md, section 1). -/
def Obligations.OnlyBrightRaises : Prop :=
  ∀ (i : Instr) (s : State), ∃ t st es, exec i s = .next t ∧ t.out = s.out ++ [.cmd st es] ∧
    (st.err = .ok ↔ ¬ ∃ m a0, i = .bright m a0 ∧ 31 < a0.toNat)

/-- R84: every command that completes reports `changed = 1`, except NOP, DELAY and STATE. -/
def Obligations.ChangedUnlessQuiet : Prop :=
  ∀ (i : Instr) (s t : State) (st : CmdStatus) (es : List Event),
    exec i s = .next t → t.out = s.out ++ [.cmd st es] → st.err = .ok →
    (st.changed = false ↔ i.opcode = 0x00#6 ∨ i.opcode = 0x0C#6 ∨ i.opcode = 0x11#6)

/-- R85: a command renders exactly when it reports `changed = 1` and the holding flag after it is 0; it
then emits one frame of the state it leaves, and otherwise no pin event at all. -/
def Obligations.RenderTrigger : Prop :=
  ∀ (i : Instr) (s t : State) (st : CmdStatus) (es : List Event),
    exec i s = .next t → t.out = s.out ++ [.cmd st es] →
    (st.rendered = (st.changed && !t.hold)) ∧
    (st.rendered = true → es = (sendBits s.dcache (frameBits Config.nEnd t)).2 ∧ t.dcache = .l0) ∧
    (st.rendered = false → clockValues es = [] ∧ dataValues es = [] ∧
      t.dcache = s.dcache ∧ t.pins = s.pins)

/-- Which commands may write which field (10_state.md section 5, the access table): a field that differs
afterwards was written by a command of its row. -/
def Obligations.FieldWriters : Prop :=
  ∀ (i : Instr) (s t : State), exec i s = .next t →
    (t.ltr ≠ s.ltr → i.opcode.toNat ∈ [0x03, 0x04]) ∧
    (t.on ≠ s.on → i.opcode.toNat ∈ [0x01, 0x02, 0x07]) ∧
    (t.hold ≠ s.hold → i.opcode.toNat ∈ [0x02, 0x05, 0x06, 0x07]) ∧
    (t.bin ≠ s.bin → i.opcode.toNat ∈ [0x07, 0x0A, 0x0B]) ∧
    (t.bmask ≠ s.bmask → i.opcode.toNat ∈ [0x07, 0x0B] ∨
      (s.bin = true ∧ i.opcode.toNat ∈ [0x0D, 0x0E, 0x0F, 0x10])) ∧
    (t.px ≠ s.px → i.opcode.toNat ∈ [0x07, 0x08, 0x09] ∨ i.opcode.toNat ∈ List.range' 0x20 13 ∨
      (s.bin = false ∧ i.opcode.toNat ∈ [0x0D, 0x0E, 0x0F, 0x10])) ∧
    (t.dcache ≠ s.dcache → t.hold = false ∧ ∃ es, t.out = s.out ++ [.cmd ⟨.ok, true, true⟩ es])

/-- R82: SP and SEL have no effect on a command of format N or D: two commands with the same opcode and
operands do the same. -/
def Obligations.SelectionIgnored : Prop :=
  ∀ (i j : Instr) (s : State), i.format = .n ∨ i.format = .d → i.opcode = j.opcode →
    i.operandBytes = j.operandBytes → exec i s = exec j s

/-- R80, R81: `Dir` takes bit `i` from bit `7-i` when `ltr = 1` and leaves the mask alone when `ltr = 0`, it
is its own inverse, and it keeps 0xFF; the selection is `Dir` of `SEL` when `SP = 1` and 0xFF when `SP = 0`,
so that pixel `i` is selected exactly when its bit is set. -/
def Obligations.DirectionTransform : Prop :=
  ∀ (s : State) (m : Byte),
    (∀ i : Fin 8, (dir s m).getLsbD i.val = internalBit s m i) ∧ dir s (dir s m) = m ∧
    dir s 0xFF#8 = 0xFF#8 ∧ selection s ⟨true, m⟩ = dir s m ∧ selection s ⟨false, m⟩ = 0xFF#8 ∧
    ∀ (f : SelField) (i : Fin 8), (selection s f).getLsbD i.val = selected s f i

/-- The selection token `pN` selects exactly logical pixel N for either value of `ltr` (40_command_cycle.md
section 2, the consequence stated for the reader). -/
def Obligations.PixelTokenSelectsLogical : Prop :=
  ∀ (s : State) (n i : Fin 8), ∃ v, parseNumber ['p', Char.ofNat (48 + n.val)] 2 = some v ∧
    (selected s ⟨true, v⟩ i = true ↔ i.val = if s.ltr then n.val else 7 - n.val)

/- ## Whole-machine invariants -/

/-- Every step keeps the serializer's invariant: the data pin stands at the cached level, which is never
L1 between steps, and the clock idles low once driven. -/
def Obligations.PinInvariantKept : Prop :=
  ∀ s t : State, s.PinInv → step s = .next t → t.PinInv

/-- R15: only `LOAD_IMAGE` can write non-zero values into bits 7:5 of a brightness: every other step keeps
them zero. -/
def Obligations.ReservedBrightnessKept : Prop :=
  ∀ s t : State, BrightnessInRange s → (∀ img, s.pending.head? ≠ some (.loadImage img true)) →
    step s = .next t → BrightnessInRange t

/-- Both invariants hold after reset: the serializer's, and the reserved brightness bits zero. -/
def Obligations.InvariantsAtReset : Prop := State.reset.PinInv ∧ BrightnessInRange State.reset

/-- No output is read back (R23, R26): two states that differ only in the pins and in the reports given
step to states that again differ only there, and both give the same new report. -/
def Obligations.OutputsNeverRead : Prop :=
  ∀ s s' t : State, SameBlock s s' → s'.pending = s.pending → step s = .next t →
    ∃ t' new, step s' = .next t' ∧ SameBlock t t' ∧ t'.pending = t.pending ∧
      t.out = s.out ++ new ∧ t'.out = s'.out ++ new

/- ## Flag commands -/

/-- R100: OFF. -/
def Obligations.OffResult : Prop :=
  RowOf 0x01#6 0xFFFFFFFF00BF#48 (fun w => .off (selOf w)) ∧
  ∀ (m : SelField) (s : State), ∃ t, exec (.off m) s = .next t ∧
    t.on = false ∧ t.hold = s.hold ∧ t.ltr = s.ltr ∧ t.bin = s.bin ∧ t.bmask = s.bmask ∧ t.px = s.px ∧
    EndsChanged s t

/-- R101: ON. -/
def Obligations.OnResult : Prop :=
  RowOf 0x02#6 0xFFFFFFFF00BF#48 (fun w => .on (selOf w)) ∧
  ∀ (m : SelField) (s : State), ∃ t, exec (.on m) s = .next t ∧
    t.on = true ∧ t.hold = false ∧ t.ltr = s.ltr ∧ t.bin = s.bin ∧ t.bmask = s.bmask ∧ t.px = s.px ∧
    EndsChanged s t

/-- R102: LEFT, and the frame it sends is the one the state before it would send. -/
def Obligations.LeftResult : Prop :=
  RowOf 0x03#6 0xFFFFFFFF00BF#48 (fun w => .left (selOf w)) ∧
  ∀ (m : SelField) (s : State), ∃ t, exec (.left m) s = .next t ∧
    t.ltr = true ∧ t.on = s.on ∧ t.hold = s.hold ∧ t.bin = s.bin ∧ t.bmask = s.bmask ∧ t.px = s.px ∧
    EndsChanged s t ∧ frameBits Config.nEnd t = frameBits Config.nEnd s

/-- R103: RIGHT. -/
def Obligations.RightResult : Prop :=
  RowOf 0x04#6 0xFFFFFFFF00BF#48 (fun w => .right (selOf w)) ∧
  ∀ (m : SelField) (s : State), ∃ t, exec (.right m) s = .next t ∧
    t.ltr = false ∧ t.on = s.on ∧ t.hold = s.hold ∧ t.bin = s.bin ∧ t.bmask = s.bmask ∧ t.px = s.px ∧
    EndsChanged s t ∧ frameBits Config.nEnd t = frameBits Config.nEnd s

/-- R104: HOLD; with `hold` set afterwards `EndsChanged` says that nothing is rendered. -/
def Obligations.HoldResult : Prop :=
  RowOf 0x05#6 0xFFFFFFFF00BF#48 (fun w => .hold (selOf w)) ∧
  ∀ (m : SelField) (s : State), ∃ t, exec (.hold m) s = .next t ∧
    t.hold = true ∧ t.ltr = s.ltr ∧ t.on = s.on ∧ t.bin = s.bin ∧ t.bmask = s.bmask ∧ t.px = s.px ∧
    EndsChanged s t

/-- R105: SHOW; with `hold` clear afterwards `EndsChanged` says that it always renders. -/
def Obligations.ShowResult : Prop :=
  RowOf 0x06#6 0xFFFFFFFF00BF#48 (fun w => .showCmd (selOf w)) ∧
  ∀ (m : SelField) (s : State), ∃ t, exec (.showCmd m) s = .next t ∧
    t.hold = false ∧ t.ltr = s.ltr ∧ t.on = s.on ∧ t.bin = s.bin ∧ t.bmask = s.bmask ∧ t.px = s.px ∧
    EndsChanged s t

/-- R106: CLEAR: the defaults, except that `ltr` is preserved. -/
def Obligations.ClearResult : Prop :=
  RowOf 0x07#6 0xFFFFFFFF00BF#48 (fun w => .clear (selOf w)) ∧
  ∀ (m : SelField) (s : State), ∃ t, exec (.clear m) s = .next t ∧
    t.ltr = s.ltr ∧ t.on = true ∧ t.hold = false ∧ t.bin = false ∧ t.bmask = 0xFF#8 ∧
    (∀ i : Fin 8, t.px[i] = ⟨7, 0, 0, 0⟩) ∧ EndsChanged s t

/- ## Pixel commands -/

/-- R107: BRIGHT with an operand of 0..31 writes the whole brightness byte of every selected pixel; with
an operand above 31 it raises `ERR_RANGE` and does nothing. -/
def Obligations.BrightResult : Prop :=
  RowOf 0x08#6 0xFFFFFF0000BF#48 (fun w => .bright (selOf w) (w.extractLsb' 16 8)) ∧
  ∀ (m : SelField) (a0 : Byte) (s : State), ∃ t, exec (.bright m a0) s = .next t ∧
    if a0.toNat ≤ 31 then
      (∀ i : Fin 8, t.px[i] =
        if selected s m i then ⟨a0, s.px[i].r, s.px[i].g, s.px[i].b⟩ else s.px[i]) ∧
      SameFlags s t ∧ t.bmask = s.bmask ∧ EndsChanged s t
    else EndsInError (.range a0.toNat) s t

/-- R108: RGB. -/
def Obligations.RgbResult : Prop :=
  RowOf 0x09#6 0xFF00000000BF#48
    (fun w => .rgb (selOf w) (w.extractLsb' 16 8) (w.extractLsb' 24 8) (w.extractLsb' 32 8)) ∧
  ∀ (m : SelField) (r g b : Byte) (s : State), ∃ t, exec (.rgb m r g b) s = .next t ∧
    (∀ i : Fin 8, t.px[i] = if selected s m i then ⟨s.px[i].br, r, g, b⟩ else s.px[i]) ∧
    SameFlags s t ∧ t.bmask = s.bmask ∧ EndsChanged s t

/-- R109 for RED, CORAL, ORANGE, GOLD, YELLOW, LIME, GREEN and AQUA, for any values of `COLOR_RGB`. -/
def Obligations.ColorResultRedToAqua : Prop :=
  ∀ p ∈ colorsA, RowOf p.1 0xFFFFFFFF00BF#48 (fun w => p.2.1 (selOf w)) ∧
    ∀ (m : SelField) (s : State), ∃ t, exec (p.2.1 m) s = .next t ∧ PaintsSelected p.2.2 m s t

/-- R109 for BLUE, PURPLE, PINK, WHITE and BLACK, for any values of `COLOR_RGB`. -/
def Obligations.ColorResultBlueToBlack : Prop :=
  ∀ p ∈ colorsB, RowOf p.1 0xFFFFFFFF00BF#48 (fun w => p.2.1 (selOf w)) ∧
    ∀ (m : SelField) (s : State), ∃ t, exec (p.2.1 m) s = .next t ∧ PaintsSelected p.2.2 m s t

/- ## Binary overlay -/

/-- R123: BINOFF. -/
def Obligations.BinoffResult : Prop :=
  RowOf 0x0A#6 0xFFFFFFFF00BF#48 (fun w => .binoff (selOf w)) ∧
  ∀ (m : SelField) (s : State), ∃ t, exec (.binoff m) s = .next t ∧
    t.bin = false ∧ t.bmask = s.bmask ∧ t.ltr = s.ltr ∧ t.on = s.on ∧ t.hold = s.hold ∧ t.px = s.px ∧
    EndsChanged s t

/-- R124: BINARY: a selected pixel takes the requested bit, translated once with the `ltr` before the
command; a pixel that is not selected is forced lit. -/
def Obligations.BinaryResult : Prop :=
  RowOf 0x0B#6 0xFFFFFF0000BF#48 (fun w => .binary (selOf w) (w.extractLsb' 16 8)) ∧
  ∀ (m : SelField) (a0 : Byte) (s : State), ∃ t, exec (.binary m a0) s = .next t ∧
    t.bin = true ∧
    (∀ i : Fin 8, t.bmask.getLsbD i.val = if selected s m i then internalBit s a0 i else true) ∧
    t.ltr = s.ltr ∧ t.on = s.on ∧ t.hold = s.hold ∧ t.px = s.px ∧ EndsChanged s t

/- ## Rotations -/

/-- R126 with R125's `MaskIn` and `PixIn`: ROTIN; bits of the mask move as records move. -/
def Obligations.RotinResult : Prop :=
  RowOf 0x0D#6 0xFFFFFFFF00BF#48 (fun w => .rotin (selOf w)) ∧
  ∀ (m : SelField) (s : State), ∃ t, exec (.rotin m) s = .next t ∧
    Rotated inSource inSource s t ∧ SameFlags s t ∧ EndsChanged s t

/-- R127 with R125's `MaskOut` and `PixOut`: ROTOUT. -/
def Obligations.RotoutResult : Prop :=
  RowOf 0x0E#6 0xFFFFFFFF00BF#48 (fun w => .rotout (selOf w)) ∧
  ∀ (m : SelField) (s : State), ∃ t, exec (.rotout m) s = .next t ∧
    Rotated outSource outSource s t ∧ SameFlags s t ∧ EndsChanged s t

/-- R128: ROTLEFT: records move up while `ltr = 0` and down while `ltr = 1`; the mask's bits move toward
bit 7 for either `ltr`. -/
def Obligations.RotleftResult : Prop :=
  RowOf 0x0F#6 0xFFFFFFFF00BF#48 (fun w => .rotleft (selOf w)) ∧
  ∀ (m : SelField) (s : State), ∃ t, exec (.rotleft m) s = .next t ∧
    Rotated (if s.ltr then aboveIndex else belowIndex) belowIndex s t ∧ SameFlags s t ∧ EndsChanged s t

/-- R129: ROTRIGHT. -/
def Obligations.RotrightResult : Prop :=
  RowOf 0x10#6 0xFFFFFFFF00BF#48 (fun w => .rotright (selOf w)) ∧
  ∀ (m : SelField) (s : State), ∃ t, exec (.rotright m) s = .next t ∧
    Rotated (if s.ltr then belowIndex else aboveIndex) aboveIndex s t ∧ SameFlags s t ∧ EndsChanged s t

/-- The rotations undo each other, in both orders, on the model fields (95_test_vectors.md W10), and four
ROTIN are the identity (45_rotate_commands.md section 2). -/
def Obligations.RotationsUndo : Prop :=
  ∀ (m m' : SelField) (s : State),
    (∀ p ∈ [(Instr.rotin m, Instr.rotout m'), (.rotout m, .rotin m'), (.rotleft m, .rotright m'),
        (.rotright m, .rotleft m')],
      ∃ t u, exec p.1 s = .next t ∧ exec p.2 t = .next u ∧ SameModel s u) ∧
    ∃ t1 t2 t3 t4, exec (.rotin m) s = .next t1 ∧ exec (.rotin m) t1 = .next t2 ∧
      exec (.rotin m) t2 = .next t3 ∧ exec (.rotin m) t3 = .next t4 ∧ SameModel s t4

/- ## Commands that change nothing -/

/-- R130: NOP. -/
def Obligations.NopResult : Prop :=
  RowOf 0x00#6 0xFFFFFFFF00BF#48 (fun w => .nop (selOf w)) ∧
  ∀ (m : SelField) (s : State), ∃ t, exec (.nop m) s = .next t ∧ EndsUnchanged [] s t

/-- R131: DELAY emits `Delay(ms)` and nothing else. -/
def Obligations.DelayResult : Prop :=
  RowOf 0x0C#6 0x0000000000BF#48 (fun w => .delay (selOf w) (w.extractLsb' 16 32)) ∧
  ∀ (m : SelField) (ms : BitVec 32) (s : State), ∃ t, exec (.delay m ms) s = .next t ∧
    EndsUnchanged [.delay ms] s t

/-- R132: STATE emits the 34 bytes of the state before it. -/
def Obligations.StateResult : Prop :=
  RowOf 0x11#6 0xFFFFFFFF00BF#48 (fun w => .state (selOf w)) ∧
  ∀ (m : SelField) (s : State), ∃ t img, exec (.state m) s = .next t ∧
    EndsUnchanged [.readout img] s t ∧ ∀ k : Fin 34, imgRead s k.val = some img[k]

/-- OFF, ON, LEFT, RIGHT, HOLD, SHOW, CLEAR, BINOFF, BRIGHT, RGB, BINARY and the colour commands are
idempotent on state (20_memory.md section 3); so are NOP, DELAY and STATE: every command but a rotation. -/
def Obligations.CommandsIdempotent : Prop :=
  ∀ (i : Instr) (s t : State), i.opcode.toNat ∉ [0x0D, 0x0E, 0x0F, 0x10] → exec i s = .next t →
    ∃ u, exec i t = .next u ∧ SameModel t u

/- ## The protocol encoder -/

/-- R134 to R136: the control byte is 0xE0 plus the 5-bit brightness of a lit pixel, and 0xE0 for a pixel
that is not lit. -/
def Obligations.ControlByteValue : Prop :=
  ∀ (s : State) (i : Fin 8), (ctrl s i).toNat =
    if s.on = true ∧ (s.bin = false ∨ s.bmask.getLsbD i.val = true) then 0xE0 + s.px[i].br.toNat % 32
    else 0xE0

/-- R133, R138 to R142: the bit sequence of a render has 288 + N_END bits: 32 zeros, then bit `k` (most
significant first) of byte `j` (control, blue, green, red) of pixel `i`, then zeros. -/
def Obligations.FrameLayout : Prop :=
  ∀ (n : Nat) (s : State), (frameBits n s).length = 288 + n ∧
    (∀ k, k < 32 → (frameBits n s)[k]? = some false) ∧
    (∀ (i : Fin 8) (j : Fin 4) (k : Fin 8),
      (frameBits n s)[32 + 32 * i.val + 8 * j.val + k.val]? =
        some ((wireByte s i j).getLsbD (7 - k.val))) ∧
    (∀ k, k < n → (frameBits n s)[288 + k]? = some false)

/-- The wire property (47_render.md section 5): the data pin's level at each rising edge of the clock is the
bit sent, for every bit of every render, wherever the cache agrees with the pin at the start. -/
def Obligations.WireCarriesFrame : Prop :=
  ∀ (d : DLevel) (bits : List Bool),
    sampled d.pin (sendBits d bits).2 = bits.map PinLevel.ofBit

/-- The event counts of one render (47_render.md section 5): twice as many clock events as bits, alternating
1, 0; as many data events as the bit sequence has changes; no two data events in a row alike. -/
def Obligations.RenderEventCounts : Prop :=
  ∀ s : State,
    clockValues (render s).2 = (List.replicate (288 + Config.nEnd) [true, false]).flatten ∧
    (dataValues (render s).2).length = toggles s.dcache (frameBits Config.nEnd s) ∧
    (dataValues (render s).2).IsChain (fun a b => a ≠ b)

/-- After every render the cache is L0 and both pins are low, whatever they were (47_render.md section 5). -/
def Obligations.RenderEndsLow : Prop :=
  ∀ (s : State) (p : Pins), (render s).1 = .l0 ∧ pinsAfter p (render s).2 = ⟨.low, .low⟩

/- ## The state port and reset -/

/-- R93: the image as read. -/
def Obligations.ImageReadLayout : Prop :=
  ∀ s : State,
    (∃ f, imgRead s 0 = some f ∧ f.toNat = (if s.ltr then 1 else 0) + (if s.on then 2 else 0) +
      (if s.hold then 4 else 0) + (if s.bin then 8 else 0)) ∧
    imgRead s 1 = some s.bmask ∧
    ∀ i : Fin 8, imgRead s (2 + 4 * i.val) = some s.px[i].br ∧
      imgRead s (3 + 4 * i.val) = some s.px[i].b ∧ imgRead s (4 + 4 * i.val) = some s.px[i].g ∧
      imgRead s (5 + 4 * i.val) = some s.px[i].r

/-- R94: `LOAD_IMAGE` with `ok = 1` writes every model field from the image and nothing else. -/
def Obligations.LoadValidImage : Prop :=
  ∀ (s : State) (img : Image) (rest : List Transaction), s.pending = .loadImage img true :: rest →
    ∃ t, step s = .next t ∧ t.ltr = img[0].getLsbD 0 ∧ t.on = img[0].getLsbD 1 ∧
      t.hold = img[0].getLsbD 2 ∧ t.bin = img[0].getLsbD 3 ∧ t.bmask = img[1] ∧
      (∀ i : Fin 8, t.px[i] =
        ⟨img[2 + 4 * i.val], img[5 + 4 * i.val], img[4 + 4 * i.val], img[3 + 4 * i.val]⟩) ∧
      t.dcache = s.dcache ∧ t.pins = s.pins ∧ t.pending = rest ∧
      t.out = s.out ++ [.load ⟨.ok, false⟩]

/-- R95, R151: `LOAD_IMAGE` with `ok = 0` sets the defaults whatever the image, keeps `dcache`, and reports
a recovery. -/
def Obligations.LoadInvalidImage : Prop :=
  ∀ (s : State) (img : Image) (rest : List Transaction), s.pending = .loadImage img false :: rest →
    ∃ t, step s = .next t ∧ DefaultModel t ∧ t.dcache = s.dcache ∧ t.pins = s.pins ∧
      t.pending = rest ∧ t.out = s.out ++ [.load ⟨.ok, true⟩]

/-- Reading and loading are inverse: a loaded image reads back with FLAGS bits 7:4 zero, and loading the
image of a state into any state gives that state's model fields. -/
def Obligations.LoadReadRoundTrip : Prop :=
  (∀ (img : Image) (s : State) (k : Fin 34), imgRead (loadImage img true s) k.val =
    some (if k.val = 0 then img[k] &&& 0x0F#8 else img[k])) ∧
  ∀ s t : State, SameModel s (loadImage (image s) true t)

/-- Reset (70_reset_and_hazards.md section 1): it sets the defaults and `dcache` UNSET, emits nothing and reports
nothing.  Two clauses are the model's own: the transactions presented behind the reset stay presented
(`t.pending = rest`, assumption log entry 14, a DESIGN CHOICE), and the pins' levels, held as fields of the
state, are unknown to the block again (entry 5, DEDUCED). -/
def Obligations.ResetTransaction : Prop :=
  ∀ (s : State) (rest : List Transaction), s.pending = .reset :: rest →
    ∃ t, step s = .next t ∧ DefaultModel t ∧ t.dcache = .unset ∧ t.pins = ⟨.unknown, .unknown⟩ ∧
      t.pending = rest ∧ t.out = s.out

/-- R29: the values after reset. -/
def Obligations.ResetValues : Prop :=
  DefaultModel State.reset ∧ State.reset.dcache = .unset ∧ State.reset.pins = ⟨.unknown, .unknown⟩

/- ## The host's side -/

/-- Every word the transcriber produces decodes to a well-formed command that is not NOP: no transcribed
word raises an error at the block (30_encoding.md section 7). -/
def Obligations.TranscribedWordsRun : Prop :=
  ∀ (ts : List Token) (w : CmdWord), transcribe ts = .word w →
    ∃ i, decode w = .ok i ∧ i.wf = true ∧ i.opcode ≠ 0x00#6

/-- The ranges of `bright` and `delay` are checked on the value before the 8-bit wrap (30_encoding.md
section 7). -/
def Obligations.RangeCheckedBeforeWrap : Prop :=
  ∀ (t : Token) (rest : List Token) (v : Nat), parseValue t 10 = some v →
    transcribe (['b', 'r', 'i', 'g', 'h', 't'] :: t :: rest) =
      (if v ≤ 31 then .word (encode (.bright ⟨false, 0⟩ (BitVec.ofNat 8 v))) else .failed (.range v)) ∧
    transcribe (['d', 'e', 'l', 'a', 'y'] :: t :: rest) =
      (if v < 2 ^ 32 then .word (encode (.delay ⟨false, 0⟩ (BitVec.ofNat 32 v)))
       else .failed (.range v))

/-- The persisted file round-trips (41_state_port.md section 3): the file saved for a state is valid and
reads back as its image, so loading it anywhere and saving again gives the same file. -/
def Obligations.PersistedFileRoundTrip : Prop :=
  ∀ s t : State, readFile (saveFile s) = some (image s) ∧
    ∃ u, transact (loadTransaction (saveFile s)) t = .next u ∧ saveFile u = saveFile s

/-- One run of the process on a saved state (70_reset_and_hazards.md R168): from any block, reset, load of
the state's file and a transcribed command leave the model fields that the command leaves on the state
itself, and the store holds the new state exactly when the command reported `changed = 1`. -/
def Obligations.BootRunCarriesOver : Prop :=
  ∀ (s s0 t : State) (args : List Token) (w : CmdWord), transcribe args = .word w →
    command w s = .next t →
    ∃ u store, runInvocation (some (saveFile s)) args s0 = some (u, store) ∧ SameModel t u ∧
      ((∃ rd es, u.out.getLast? = some (.cmd ⟨.ok, true, rd⟩ es)) → store = some (saveFile t)) ∧
      ((∃ e rd es, u.out.getLast? = some (.cmd ⟨e, false, rd⟩ es)) → store = some (saveFile s))
end

