-- ==== Sys2Proof/Laws/Encoding.lean ====
section
/-! SUPPORT. The fields of a word and the word of fields are inverse to each other; masking acts field by
field; the decoder's answer read off the fields. -/

namespace Sys2Proof

@[simp] theorem fieldsOf_pack (f : Fields) : fieldsOf (pack f) = f := by
  rcases f with ⟨op, sp, r0, sel, a0, a1, a2, r1⟩
  simp only [fieldsOf, pack, Fields.mk.injEq]
  refine ⟨?_, ?_, ?_, ?_, ?_, ?_, ?_, ?_⟩
  case refine_2 =>
    simp only [BitVec.getLsbD_append, BitVec.getLsbD_ofBool]
    grind
  case refine_3 =>
    simp only [BitVec.getLsbD_append, BitVec.getLsbD_ofBool]
    grind
  all_goals
    apply BitVec.eq_of_getLsbD_eq
    intro i hi
    simp only [BitVec.getLsbD_append, BitVec.getLsbD_extractLsb', BitVec.getLsbD_ofBool]
    grind

@[simp] theorem pack_fieldsOf (w : CmdWord) : pack (fieldsOf w) = w := by
  apply BitVec.eq_of_getLsbD_eq
  intro i hi
  simp only [pack, fieldsOf, BitVec.getLsbD_append, BitVec.getLsbD_extractLsb', BitVec.getLsbD_ofBool]
  grind

/-- Words with the same fields are the same word. -/
theorem eq_of_fieldsOf_eq {v w : CmdWord} (h : fieldsOf v = fieldsOf w) : v = w := by
  rw [← pack_fieldsOf v, h, pack_fieldsOf]

/-- Masking acts on each field. -/
theorem fieldsOf_and (v w : CmdWord) :
    fieldsOf (v &&& w) =
      ⟨(fieldsOf v).op &&& (fieldsOf w).op, (fieldsOf v).sp && (fieldsOf w).sp,
       (fieldsOf v).rsv0 && (fieldsOf w).rsv0, (fieldsOf v).sel &&& (fieldsOf w).sel,
       (fieldsOf v).a0 &&& (fieldsOf w).a0, (fieldsOf v).a1 &&& (fieldsOf w).a1,
       (fieldsOf v).a2 &&& (fieldsOf w).a2, (fieldsOf v).rsv1 &&& (fieldsOf w).rsv1⟩ := by
  simp [fieldsOf, BitVec.extractLsb'_and]

/-- The four operand bytes of 32 bits, put together again. -/
theorem msOf_bytes (ms : BitVec 32) (op : BitVec 6) (sp r0 : Bool) (sel : Byte) :
    msOf ⟨op, sp, r0, sel, ms.extractLsb' 0 8, ms.extractLsb' 8 8, ms.extractLsb' 16 8,
      ms.extractLsb' 24 8⟩ = ms := by
  apply BitVec.eq_of_getLsbD_eq
  intro i hi
  simp only [msOf, BitVec.getLsbD_append, BitVec.getLsbD_extractLsb']
  grind

/-- The bytes of `MS` are the operand bytes (R47). -/
theorem msOf_extract (f : Fields) :
    (msOf f).extractLsb' 0 8 = f.a0 ∧ (msOf f).extractLsb' 8 8 = f.a1 ∧
      (msOf f).extractLsb' 16 8 = f.a2 ∧ (msOf f).extractLsb' 24 8 = f.rsv1 := by
  refine ⟨?_, ?_, ?_, ?_⟩
  all_goals
    apply BitVec.eq_of_getLsbD_eq
    intro i hi
    simp only [msOf, BitVec.getLsbD_append, BitVec.getLsbD_extractLsb']
    grind

/-- `MS` is zero exactly when the four operand bytes are (R52). -/
theorem msOf_eq_zero (f : Fields) :
    msOf f = 0#32 ↔ f.a0 = 0#8 ∧ f.a1 = 0#8 ∧ f.a2 = 0#8 ∧ f.rsv1 = 0#8 := by
  constructor
  · intro h
    obtain ⟨h0, h1, h2, h3⟩ := msOf_extract f
    rw [h] at h0 h1 h2 h3
    simp_all
  · rintro ⟨h0, h1, h2, h3⟩
    simp only [msOf, h0, h1, h2, h3]
    decide

/-- The decoder on an encoded command reads the command's own fields. -/
theorem decode_encode_fields (i : Instr) : decode (encode i) = decodeFields i.fields := by
  simp [decode, encode]

end Sys2Proof
end

