-- ==== Sys2Proof/Laws/State.lean ====
section
/-! SUPPORT. One lemma per field per update of State, and the fields after the model operations, so that
no later proof unfolds a record update. -/

namespace Sys2Proof.Machine

@[simp] theorem State.setPx_px (s : State) (v : Vector Pixel 8) : (s.setPx v).px = v := rfl
@[simp] theorem State.setPx_ltr (s : State) (v : Vector Pixel 8) : (s.setPx v).ltr = s.ltr := rfl
@[simp] theorem State.setPx_on (s : State) (v : Vector Pixel 8) : (s.setPx v).on = s.on := rfl
@[simp] theorem State.setPx_hold (s : State) (v : Vector Pixel 8) : (s.setPx v).hold = s.hold := rfl
@[simp] theorem State.setPx_bin (s : State) (v : Vector Pixel 8) : (s.setPx v).bin = s.bin := rfl
@[simp] theorem State.setPx_bmask (s : State) (v : Vector Pixel 8) : (s.setPx v).bmask = s.bmask := rfl
@[simp] theorem State.setPx_dcache (s : State) (v : Vector Pixel 8) : (s.setPx v).dcache = s.dcache := rfl
@[simp] theorem State.setPx_pins (s : State) (v : Vector Pixel 8) : (s.setPx v).pins = s.pins := rfl
@[simp] theorem State.setPx_pending (s : State) (v : Vector Pixel 8) : (s.setPx v).pending = s.pending := rfl
@[simp] theorem State.setPx_out (s : State) (v : Vector Pixel 8) : (s.setPx v).out = s.out := rfl

@[simp] theorem State.setLtr_px (s : State) (v : Bool) : (s.setLtr v).px = s.px := rfl
@[simp] theorem State.setLtr_ltr (s : State) (v : Bool) : (s.setLtr v).ltr = v := rfl
@[simp] theorem State.setLtr_on (s : State) (v : Bool) : (s.setLtr v).on = s.on := rfl
@[simp] theorem State.setLtr_hold (s : State) (v : Bool) : (s.setLtr v).hold = s.hold := rfl
@[simp] theorem State.setLtr_bin (s : State) (v : Bool) : (s.setLtr v).bin = s.bin := rfl
@[simp] theorem State.setLtr_bmask (s : State) (v : Bool) : (s.setLtr v).bmask = s.bmask := rfl
@[simp] theorem State.setLtr_dcache (s : State) (v : Bool) : (s.setLtr v).dcache = s.dcache := rfl
@[simp] theorem State.setLtr_pins (s : State) (v : Bool) : (s.setLtr v).pins = s.pins := rfl
@[simp] theorem State.setLtr_pending (s : State) (v : Bool) : (s.setLtr v).pending = s.pending := rfl
@[simp] theorem State.setLtr_out (s : State) (v : Bool) : (s.setLtr v).out = s.out := rfl

@[simp] theorem State.setOn_px (s : State) (v : Bool) : (s.setOn v).px = s.px := rfl
@[simp] theorem State.setOn_ltr (s : State) (v : Bool) : (s.setOn v).ltr = s.ltr := rfl
@[simp] theorem State.setOn_on (s : State) (v : Bool) : (s.setOn v).on = v := rfl
@[simp] theorem State.setOn_hold (s : State) (v : Bool) : (s.setOn v).hold = s.hold := rfl
@[simp] theorem State.setOn_bin (s : State) (v : Bool) : (s.setOn v).bin = s.bin := rfl
@[simp] theorem State.setOn_bmask (s : State) (v : Bool) : (s.setOn v).bmask = s.bmask := rfl
@[simp] theorem State.setOn_dcache (s : State) (v : Bool) : (s.setOn v).dcache = s.dcache := rfl
@[simp] theorem State.setOn_pins (s : State) (v : Bool) : (s.setOn v).pins = s.pins := rfl
@[simp] theorem State.setOn_pending (s : State) (v : Bool) : (s.setOn v).pending = s.pending := rfl
@[simp] theorem State.setOn_out (s : State) (v : Bool) : (s.setOn v).out = s.out := rfl

@[simp] theorem State.setHold_px (s : State) (v : Bool) : (s.setHold v).px = s.px := rfl
@[simp] theorem State.setHold_ltr (s : State) (v : Bool) : (s.setHold v).ltr = s.ltr := rfl
@[simp] theorem State.setHold_on (s : State) (v : Bool) : (s.setHold v).on = s.on := rfl
@[simp] theorem State.setHold_hold (s : State) (v : Bool) : (s.setHold v).hold = v := rfl
@[simp] theorem State.setHold_bin (s : State) (v : Bool) : (s.setHold v).bin = s.bin := rfl
@[simp] theorem State.setHold_bmask (s : State) (v : Bool) : (s.setHold v).bmask = s.bmask := rfl
@[simp] theorem State.setHold_dcache (s : State) (v : Bool) : (s.setHold v).dcache = s.dcache := rfl
@[simp] theorem State.setHold_pins (s : State) (v : Bool) : (s.setHold v).pins = s.pins := rfl
@[simp] theorem State.setHold_pending (s : State) (v : Bool) : (s.setHold v).pending = s.pending := rfl
@[simp] theorem State.setHold_out (s : State) (v : Bool) : (s.setHold v).out = s.out := rfl

@[simp] theorem State.setBin_px (s : State) (v : Bool) : (s.setBin v).px = s.px := rfl
@[simp] theorem State.setBin_ltr (s : State) (v : Bool) : (s.setBin v).ltr = s.ltr := rfl
@[simp] theorem State.setBin_on (s : State) (v : Bool) : (s.setBin v).on = s.on := rfl
@[simp] theorem State.setBin_hold (s : State) (v : Bool) : (s.setBin v).hold = s.hold := rfl
@[simp] theorem State.setBin_bin (s : State) (v : Bool) : (s.setBin v).bin = v := rfl
@[simp] theorem State.setBin_bmask (s : State) (v : Bool) : (s.setBin v).bmask = s.bmask := rfl
@[simp] theorem State.setBin_dcache (s : State) (v : Bool) : (s.setBin v).dcache = s.dcache := rfl
@[simp] theorem State.setBin_pins (s : State) (v : Bool) : (s.setBin v).pins = s.pins := rfl
@[simp] theorem State.setBin_pending (s : State) (v : Bool) : (s.setBin v).pending = s.pending := rfl
@[simp] theorem State.setBin_out (s : State) (v : Bool) : (s.setBin v).out = s.out := rfl

@[simp] theorem State.setBmask_px (s : State) (v : Byte) : (s.setBmask v).px = s.px := rfl
@[simp] theorem State.setBmask_ltr (s : State) (v : Byte) : (s.setBmask v).ltr = s.ltr := rfl
@[simp] theorem State.setBmask_on (s : State) (v : Byte) : (s.setBmask v).on = s.on := rfl
@[simp] theorem State.setBmask_hold (s : State) (v : Byte) : (s.setBmask v).hold = s.hold := rfl
@[simp] theorem State.setBmask_bin (s : State) (v : Byte) : (s.setBmask v).bin = s.bin := rfl
@[simp] theorem State.setBmask_bmask (s : State) (v : Byte) : (s.setBmask v).bmask = v := rfl
@[simp] theorem State.setBmask_dcache (s : State) (v : Byte) : (s.setBmask v).dcache = s.dcache := rfl
@[simp] theorem State.setBmask_pins (s : State) (v : Byte) : (s.setBmask v).pins = s.pins := rfl
@[simp] theorem State.setBmask_pending (s : State) (v : Byte) : (s.setBmask v).pending = s.pending := rfl
@[simp] theorem State.setBmask_out (s : State) (v : Byte) : (s.setBmask v).out = s.out := rfl

@[simp] theorem State.setDcache_px (s : State) (v : DLevel) : (s.setDcache v).px = s.px := rfl
@[simp] theorem State.setDcache_ltr (s : State) (v : DLevel) : (s.setDcache v).ltr = s.ltr := rfl
@[simp] theorem State.setDcache_on (s : State) (v : DLevel) : (s.setDcache v).on = s.on := rfl
@[simp] theorem State.setDcache_hold (s : State) (v : DLevel) : (s.setDcache v).hold = s.hold := rfl
@[simp] theorem State.setDcache_bin (s : State) (v : DLevel) : (s.setDcache v).bin = s.bin := rfl
@[simp] theorem State.setDcache_bmask (s : State) (v : DLevel) : (s.setDcache v).bmask = s.bmask := rfl
@[simp] theorem State.setDcache_dcache (s : State) (v : DLevel) : (s.setDcache v).dcache = v := rfl
@[simp] theorem State.setDcache_pins (s : State) (v : DLevel) : (s.setDcache v).pins = s.pins := rfl
@[simp] theorem State.setDcache_pending (s : State) (v : DLevel) : (s.setDcache v).pending = s.pending := rfl
@[simp] theorem State.setDcache_out (s : State) (v : DLevel) : (s.setDcache v).out = s.out := rfl

@[simp] theorem State.setPins_px (s : State) (v : Pins) : (s.setPins v).px = s.px := rfl
@[simp] theorem State.setPins_ltr (s : State) (v : Pins) : (s.setPins v).ltr = s.ltr := rfl
@[simp] theorem State.setPins_on (s : State) (v : Pins) : (s.setPins v).on = s.on := rfl
@[simp] theorem State.setPins_hold (s : State) (v : Pins) : (s.setPins v).hold = s.hold := rfl
@[simp] theorem State.setPins_bin (s : State) (v : Pins) : (s.setPins v).bin = s.bin := rfl
@[simp] theorem State.setPins_bmask (s : State) (v : Pins) : (s.setPins v).bmask = s.bmask := rfl
@[simp] theorem State.setPins_dcache (s : State) (v : Pins) : (s.setPins v).dcache = s.dcache := rfl
@[simp] theorem State.setPins_pins (s : State) (v : Pins) : (s.setPins v).pins = v := rfl
@[simp] theorem State.setPins_pending (s : State) (v : Pins) : (s.setPins v).pending = s.pending := rfl
@[simp] theorem State.setPins_out (s : State) (v : Pins) : (s.setPins v).out = s.out := rfl

@[simp] theorem State.setPending_px (s : State) (v : List Transaction) : (s.setPending v).px = s.px := rfl
@[simp] theorem State.setPending_ltr (s : State) (v : List Transaction) : (s.setPending v).ltr = s.ltr := rfl
@[simp] theorem State.setPending_on (s : State) (v : List Transaction) : (s.setPending v).on = s.on := rfl
@[simp] theorem State.setPending_hold (s : State) (v : List Transaction) : (s.setPending v).hold = s.hold := rfl
@[simp] theorem State.setPending_bin (s : State) (v : List Transaction) : (s.setPending v).bin = s.bin := rfl
@[simp] theorem State.setPending_bmask (s : State) (v : List Transaction) : (s.setPending v).bmask = s.bmask := rfl
@[simp] theorem State.setPending_dcache (s : State) (v : List Transaction) : (s.setPending v).dcache = s.dcache := rfl
@[simp] theorem State.setPending_pins (s : State) (v : List Transaction) : (s.setPending v).pins = s.pins := rfl
@[simp] theorem State.setPending_pending (s : State) (v : List Transaction) : (s.setPending v).pending = v := rfl
@[simp] theorem State.setPending_out (s : State) (v : List Transaction) : (s.setPending v).out = s.out := rfl

@[simp] theorem State.setOut_px (s : State) (v : List Report) : (s.setOut v).px = s.px := rfl
@[simp] theorem State.setOut_ltr (s : State) (v : List Report) : (s.setOut v).ltr = s.ltr := rfl
@[simp] theorem State.setOut_on (s : State) (v : List Report) : (s.setOut v).on = s.on := rfl
@[simp] theorem State.setOut_hold (s : State) (v : List Report) : (s.setOut v).hold = s.hold := rfl
@[simp] theorem State.setOut_bin (s : State) (v : List Report) : (s.setOut v).bin = s.bin := rfl
@[simp] theorem State.setOut_bmask (s : State) (v : List Report) : (s.setOut v).bmask = s.bmask := rfl
@[simp] theorem State.setOut_dcache (s : State) (v : List Report) : (s.setOut v).dcache = s.dcache := rfl
@[simp] theorem State.setOut_pins (s : State) (v : List Report) : (s.setOut v).pins = s.pins := rfl
@[simp] theorem State.setOut_pending (s : State) (v : List Report) : (s.setOut v).pending = s.pending := rfl
@[simp] theorem State.setOut_out (s : State) (v : List Report) : (s.setOut v).out = v := rfl

@[simp] theorem clearPixels_px (s : State) : (clearPixels s).px = Vector.replicate 8 Pixel.default := rfl
@[simp] theorem clearPixels_ltr (s : State) : (clearPixels s).ltr = s.ltr := rfl
@[simp] theorem clearPixels_on (s : State) : (clearPixels s).on = s.on := rfl
@[simp] theorem clearPixels_hold (s : State) : (clearPixels s).hold = s.hold := rfl
@[simp] theorem clearPixels_bin (s : State) : (clearPixels s).bin = s.bin := rfl
@[simp] theorem clearPixels_bmask (s : State) : (clearPixels s).bmask = s.bmask := rfl
@[simp] theorem clearPixels_dcache (s : State) : (clearPixels s).dcache = s.dcache := rfl
@[simp] theorem clearPixels_pins (s : State) : (clearPixels s).pins = s.pins := rfl
@[simp] theorem clearPixels_pending (s : State) : (clearPixels s).pending = s.pending := rfl
@[simp] theorem clearPixels_out (s : State) : (clearPixels s).out = s.out := rfl

@[simp] theorem initDefaults_px (s : State) : (initDefaults s).px = Vector.replicate 8 Pixel.default := rfl
@[simp] theorem initDefaults_ltr (s : State) : (initDefaults s).ltr = true := rfl
@[simp] theorem initDefaults_on (s : State) : (initDefaults s).on = true := rfl
@[simp] theorem initDefaults_hold (s : State) : (initDefaults s).hold = false := rfl
@[simp] theorem initDefaults_bin (s : State) : (initDefaults s).bin = false := rfl
@[simp] theorem initDefaults_bmask (s : State) : (initDefaults s).bmask = 0xFF#8 := rfl
@[simp] theorem initDefaults_dcache (s : State) : (initDefaults s).dcache = s.dcache := rfl
@[simp] theorem initDefaults_pins (s : State) : (initDefaults s).pins = s.pins := rfl
@[simp] theorem initDefaults_pending (s : State) : (initDefaults s).pending = s.pending := rfl
@[simp] theorem initDefaults_out (s : State) : (initDefaults s).out = s.out := rfl

@[simp] theorem State.report_px (s : State) (r : Report) (ev : List Event) : (s.report r ev).px = s.px := rfl
@[simp] theorem State.report_ltr (s : State) (r : Report) (ev : List Event) : (s.report r ev).ltr = s.ltr := rfl
@[simp] theorem State.report_on (s : State) (r : Report) (ev : List Event) : (s.report r ev).on = s.on := rfl
@[simp] theorem State.report_hold (s : State) (r : Report) (ev : List Event) : (s.report r ev).hold = s.hold := rfl
@[simp] theorem State.report_bin (s : State) (r : Report) (ev : List Event) : (s.report r ev).bin = s.bin := rfl
@[simp] theorem State.report_bmask (s : State) (r : Report) (ev : List Event) : (s.report r ev).bmask = s.bmask := rfl
@[simp] theorem State.report_dcache (s : State) (r : Report) (ev : List Event) : (s.report r ev).dcache = s.dcache := rfl
@[simp] theorem State.report_pins (s : State) (r : Report) (ev : List Event) : (s.report r ev).pins = pinsAfter s.pins ev := rfl
@[simp] theorem State.report_pending (s : State) (r : Report) (ev : List Event) : (s.report r ev).pending = s.pending := rfl
@[simp] theorem State.report_out (s : State) (r : Report) (ev : List Event) : (s.report r ev).out = s.out ++ [r] := rfl

@[simp] theorem doReset_px (s : State) : (doReset s).px = Vector.replicate 8 Pixel.default := rfl
@[simp] theorem doReset_ltr (s : State) : (doReset s).ltr = true := rfl
@[simp] theorem doReset_on (s : State) : (doReset s).on = true := rfl
@[simp] theorem doReset_hold (s : State) : (doReset s).hold = false := rfl
@[simp] theorem doReset_bin (s : State) : (doReset s).bin = false := rfl
@[simp] theorem doReset_bmask (s : State) : (doReset s).bmask = 0xFF#8 := rfl
@[simp] theorem doReset_dcache (s : State) : (doReset s).dcache = DLevel.unset := rfl
@[simp] theorem doReset_pins (s : State) : (doReset s).pins = ⟨.unknown, .unknown⟩ := rfl
@[simp] theorem doReset_pending (s : State) : (doReset s).pending = s.pending := rfl
@[simp] theorem doReset_out (s : State) : (doReset s).out = s.out := rfl

@[simp] theorem loadFields_px (img : Image) (s : State) : (loadFields img s).px = imagePixels img := rfl
@[simp] theorem loadFields_ltr (img : Image) (s : State) : (loadFields img s).ltr = flagLtr img[0] := rfl
@[simp] theorem loadFields_on (img : Image) (s : State) : (loadFields img s).on = flagOn img[0] := rfl
@[simp] theorem loadFields_hold (img : Image) (s : State) : (loadFields img s).hold = flagHold img[0] := rfl
@[simp] theorem loadFields_bin (img : Image) (s : State) : (loadFields img s).bin = flagBin img[0] := rfl
@[simp] theorem loadFields_bmask (img : Image) (s : State) : (loadFields img s).bmask = img[1] := rfl
@[simp] theorem loadFields_dcache (img : Image) (s : State) : (loadFields img s).dcache = s.dcache := rfl
@[simp] theorem loadFields_pins (img : Image) (s : State) : (loadFields img s).pins = s.pins := rfl
@[simp] theorem loadFields_pending (img : Image) (s : State) : (loadFields img s).pending = s.pending := rfl
@[simp] theorem loadFields_out (img : Image) (s : State) : (loadFields img s).out = s.out := rfl

@[simp] theorem finishQuiet_px (ch : Bool) (ev : List Event) (s : State) :
    (finishQuiet ch ev s).px = s.px := rfl
@[simp] theorem finishQuiet_ltr (ch : Bool) (ev : List Event) (s : State) :
    (finishQuiet ch ev s).ltr = s.ltr := rfl
@[simp] theorem finishQuiet_on (ch : Bool) (ev : List Event) (s : State) :
    (finishQuiet ch ev s).on = s.on := rfl
@[simp] theorem finishQuiet_hold (ch : Bool) (ev : List Event) (s : State) :
    (finishQuiet ch ev s).hold = s.hold := rfl
@[simp] theorem finishQuiet_bin (ch : Bool) (ev : List Event) (s : State) :
    (finishQuiet ch ev s).bin = s.bin := rfl
@[simp] theorem finishQuiet_bmask (ch : Bool) (ev : List Event) (s : State) :
    (finishQuiet ch ev s).bmask = s.bmask := rfl
@[simp] theorem finishQuiet_dcache (ch : Bool) (ev : List Event) (s : State) :
    (finishQuiet ch ev s).dcache = s.dcache := rfl
@[simp] theorem finishQuiet_pins (ch : Bool) (ev : List Event) (s : State) :
    (finishQuiet ch ev s).pins = pinsAfter s.pins ev := rfl
@[simp] theorem finishQuiet_pending (ch : Bool) (ev : List Event) (s : State) :
    (finishQuiet ch ev s).pending = s.pending := rfl
@[simp] theorem finishQuiet_out (ch : Bool) (ev : List Event) (s : State) :
    (finishQuiet ch ev s).out = s.out ++ [.cmd ⟨.ok, ch, false⟩ ev] := rfl

@[simp] theorem finishRendered_px (s : State) : (finishRendered s).px = s.px := by
  simp only [finishRendered, State.report_px, State.setDcache_px]
@[simp] theorem finishRendered_ltr (s : State) : (finishRendered s).ltr = s.ltr := by
  simp only [finishRendered, State.report_ltr, State.setDcache_ltr]
@[simp] theorem finishRendered_on (s : State) : (finishRendered s).on = s.on := by
  simp only [finishRendered, State.report_on, State.setDcache_on]
@[simp] theorem finishRendered_hold (s : State) : (finishRendered s).hold = s.hold := by
  simp only [finishRendered, State.report_hold, State.setDcache_hold]
@[simp] theorem finishRendered_bin (s : State) : (finishRendered s).bin = s.bin := by
  simp only [finishRendered, State.report_bin, State.setDcache_bin]
@[simp] theorem finishRendered_bmask (s : State) : (finishRendered s).bmask = s.bmask := by
  simp only [finishRendered, State.report_bmask, State.setDcache_bmask]
@[simp] theorem finishRendered_dcache (s : State) : (finishRendered s).dcache = (render s).1 := by
  simp only [finishRendered, State.report_dcache, State.setDcache_dcache]
@[simp] theorem finishRendered_pins (s : State) : (finishRendered s).pins = pinsAfter s.pins (render s).2 := by
  simp only [finishRendered, State.report_pins, State.setDcache_pins]
@[simp] theorem finishRendered_pending (s : State) : (finishRendered s).pending = s.pending := by
  simp only [finishRendered, State.report_pending, State.setDcache_pending]
@[simp] theorem finishRendered_out (s : State) : (finishRendered s).out = s.out ++ [.cmd ⟨.ok, true, true⟩ (render s).2] := by
  simp only [finishRendered, State.report_out, State.setDcache_out]

@[simp] theorem errorState_px (e : Err) (s : State) : (errorState e s).px = s.px := rfl
@[simp] theorem errorState_ltr (e : Err) (s : State) : (errorState e s).ltr = s.ltr := rfl
@[simp] theorem errorState_on (e : Err) (s : State) : (errorState e s).on = s.on := rfl
@[simp] theorem errorState_hold (e : Err) (s : State) : (errorState e s).hold = s.hold := rfl
@[simp] theorem errorState_bin (e : Err) (s : State) : (errorState e s).bin = s.bin := rfl
@[simp] theorem errorState_bmask (e : Err) (s : State) : (errorState e s).bmask = s.bmask := rfl
@[simp] theorem errorState_dcache (e : Err) (s : State) : (errorState e s).dcache = s.dcache := rfl
@[simp] theorem errorState_pins (e : Err) (s : State) : (errorState e s).pins = s.pins := rfl
@[simp] theorem errorState_pending (e : Err) (s : State) : (errorState e s).pending = s.pending := rfl
@[simp] theorem errorState_out (e : Err) (s : State) : (errorState e s).out = s.out ++ [.cmd ⟨e, false, false⟩ []] := rfl

@[simp] theorem finish_px (s : State) : (finish s).px = s.px := by
  unfold finish; split <;> simp only [finishQuiet_px, finishRendered_px]
@[simp] theorem finish_ltr (s : State) : (finish s).ltr = s.ltr := by
  unfold finish; split <;> simp only [finishQuiet_ltr, finishRendered_ltr]
@[simp] theorem finish_on (s : State) : (finish s).on = s.on := by
  unfold finish; split <;> simp only [finishQuiet_on, finishRendered_on]
@[simp] theorem finish_hold (s : State) : (finish s).hold = s.hold := by
  unfold finish; split <;> simp only [finishQuiet_hold, finishRendered_hold]
@[simp] theorem finish_bin (s : State) : (finish s).bin = s.bin := by
  unfold finish; split <;> simp only [finishQuiet_bin, finishRendered_bin]
@[simp] theorem finish_bmask (s : State) : (finish s).bmask = s.bmask := by
  unfold finish; split <;> simp only [finishQuiet_bmask, finishRendered_bmask]
@[simp] theorem finish_pending (s : State) : (finish s).pending = s.pending := by
  unfold finish; split <;> simp only [finishQuiet_pending, finishRendered_pending]

/-- A held command keeps the cache, the pins, and reports no event (R85, R86). -/
theorem finish_held {s : State} (h : s.hold = true) :
    (finish s).dcache = s.dcache ∧ (finish s).pins = s.pins ∧
      (finish s).out = s.out ++ [.cmd ⟨.ok, true, false⟩ []] := by
  simp [finish, h, pinsAfter]

/-- A command that is not held renders the state it leaves (R85). -/
theorem finish_rendered {s : State} (h : s.hold = false) :
    (finish s).dcache = (render s).1 ∧ (finish s).pins = pinsAfter s.pins (render s).2 ∧
      (finish s).out = s.out ++ [.cmd ⟨.ok, true, true⟩ (render s).2] := by
  simp [finish, h]

/-- Two states with equal fields are equal. -/
theorem State.ext_fields {s t : State} (h1 : s.px = t.px) (h2 : s.ltr = t.ltr) (h3 : s.on = t.on)
    (h4 : s.hold = t.hold) (h5 : s.bin = t.bin) (h6 : s.bmask = t.bmask) (h7 : s.dcache = t.dcache)
    (h8 : s.pins = t.pins) (h9 : s.pending = t.pending) (h10 : s.out = t.out) : s = t := by
  cases s; cases t; simp_all

end Sys2Proof.Machine
end

