-- ==== Sys2Proof/Laws/Render.lean ====
section
/-! SUPPORT. What the bit serializer and a render can do (47_render.md R133, R143): sending a sequence in
two parts, the cache afterwards, and which fields a frame reads. -/

namespace Sys2Proof.Machine

/-- After one bit the cache holds its level (R143). -/
@[simp] theorem sendBit_fst (d : DLevel) (x : Bool) : (sendBit d x).1 = DLevel.ofBit x := by
  unfold sendBit
  split
  · assumption
  · rfl

@[simp] theorem sendBits_nil (d : DLevel) : sendBits d [] = (d, []) := rfl

theorem sendBits_cons_snd (d : DLevel) (x : Bool) (xs : List Bool) :
    (sendBits d (x :: xs)).2 = (sendBit d x).2 ++ (sendBits (DLevel.ofBit x) xs).2 := by
  rw [← sendBit_fst d x]; rfl

theorem sendBits_cons_fst (d : DLevel) (x : Bool) (xs : List Bool) :
    (sendBits d (x :: xs)).1 = (sendBits (DLevel.ofBit x) xs).1 := by
  rw [← sendBit_fst d x]; rfl

/-- Sending two sequences one after the other. -/
theorem sendBits_append (d : DLevel) (xs ys : List Bool) :
    sendBits d (xs ++ ys) =
      ((sendBits (sendBits d xs).1 ys).1, (sendBits d xs).2 ++ (sendBits (sendBits d xs).1 ys).2) := by
  induction xs generalizing d with
  | nil => simp
  | cons x xs ih =>
    apply Prod.ext
    · rw [List.cons_append, sendBits_cons_fst, ih, sendBits_cons_fst]
    · rw [List.cons_append, sendBits_cons_snd, ih, sendBits_cons_fst, sendBits_cons_snd, List.append_assoc]

/-- The cache after a sequence holds its last bit. -/
theorem sendBits_fst_concat (d : DLevel) (xs : List Bool) (x : Bool) :
    (sendBits d (xs ++ [x])).1 = DLevel.ofBit x := by
  rw [sendBits_append]
  simp [sendBits]

theorem render_eq (s : State) : render s = sendBits s.dcache (frameBits Config.nEnd s) := by
  unfold render renderWith
  rfl

/-- The pins after two event lists, one after the other. -/
theorem pinsAfter_append (p : Pins) (xs ys : List Event) :
    pinsAfter p (xs ++ ys) = pinsAfter (pinsAfter p xs) ys := by
  simp [pinsAfter, List.foldl_append]

/-- A frame reads `px`, `on`, `bin` and `bmask` only (R134 to R140). -/
theorem frameBits_congr {s t : State} (n : Nat) (hpx : t.px = s.px) (hon : t.on = s.on)
    (hbin : t.bin = s.bin) (hmask : t.bmask = s.bmask) : frameBits n t = frameBits n s := by
  have h : frameBytes t = frameBytes s := by
    unfold frameBytes
    congr 1
    funext i
    simp [pixelFrame, ctrl, effBr, lit, hpx, hon, hbin, hmask]
  simp [frameBits, h]

end Sys2Proof.Machine
end

