-- ==== Sys2Proof/Laws/Exec.lean ====
section
/-! SUPPORT. What each command answers: the next state, by its rule (files 42 to 46 of spec/); and what a
step answers for each transaction. Later proofs cite these and do not unfold `exec`. -/

namespace Sys2Proof.Machine

@[simp] theorem exec_nop (m : SelField) (s : State) :
    exec (.nop m) s = .next (finishQuiet false [] s) := rfl

@[simp] theorem exec_off (m : SelField) (s : State) :
    exec (.off m) s = .next (finish (s.setOn false)) := rfl

@[simp] theorem exec_on (m : SelField) (s : State) :
    exec (.on m) s = .next (finish ((s.setOn true).setHold false)) := rfl

@[simp] theorem exec_left (m : SelField) (s : State) :
    exec (.left m) s = .next (finish (s.setLtr true)) := rfl

@[simp] theorem exec_right (m : SelField) (s : State) :
    exec (.right m) s = .next (finish (s.setLtr false)) := rfl

@[simp] theorem exec_hold (m : SelField) (s : State) :
    exec (.hold m) s = .next (finish (s.setHold true)) := rfl

@[simp] theorem exec_showCmd (m : SelField) (s : State) :
    exec (.showCmd m) s = .next (finish (s.setHold false)) := rfl

@[simp] theorem exec_clear (m : SelField) (s : State) :
    exec (.clear m) s = .next (finish (clearPixels ((((s.setOn true).setHold false).setBin false).setBmask 0xFF#8))) := rfl

theorem exec_bright_of_le (m : SelField) (a0 : Byte) (s : State) (h : a0.toNat ≤ 31) :
    exec (.bright m a0) s =
      .next (finish (s.setPx (masked (selection s m) (withBrightness a0) s.px))) := by
  simp [exec, execBright, Nat.not_lt.mpr h, commit]

theorem exec_bright_of_gt (m : SelField) (a0 : Byte) (s : State) (h : 31 < a0.toNat) :
    exec (.bright m a0) s = .next (errorState (.range a0.toNat) s) := by
  simp [exec, execBright, h, raise]

@[simp] theorem exec_rgb (m : SelField) (r g b : Byte) (s : State) :
    exec (.rgb m r g b) s = .next (finish (s.setPx (masked (selection s m) (withColor r g b) s.px))) := rfl

@[simp] theorem exec_binoff (m : SelField) (s : State) :
    exec (.binoff m) s = .next (finish (s.setBin false)) := rfl

@[simp] theorem exec_binary (m : SelField) (a0 : Byte) (s : State) :
    exec (.binary m a0) s = .next (finish ((s.setBin true).setBmask (dir s a0 ||| ~~~(selection s m)))) := rfl

@[simp] theorem exec_delay (m : SelField) (ms : BitVec 32) (s : State) :
    exec (.delay m ms) s = .next (finishQuiet false [.delay ms] s) := rfl

@[simp] theorem exec_rotin (m : SelField) (s : State) :
    exec (.rotin m) s = .next (finish (if s.bin then s.setBmask (maskIn s.bmask) else s.setPx (pixIn s.px))) := rfl

@[simp] theorem exec_rotout (m : SelField) (s : State) :
    exec (.rotout m) s = .next (finish (if s.bin then s.setBmask (maskOut s.bmask) else s.setPx (pixOut s.px))) := rfl

@[simp] theorem exec_rotleft (m : SelField) (s : State) :
    exec (.rotleft m) s = .next (finish (if s.bin then s.setBmask (rotl8 s.bmask)
    else if s.ltr then s.setPx (shiftDown s.px) else s.setPx (shiftUp s.px))) := rfl

@[simp] theorem exec_rotright (m : SelField) (s : State) :
    exec (.rotright m) s = .next (finish (if s.bin then s.setBmask (rotr8 s.bmask)
    else if s.ltr then s.setPx (shiftUp s.px) else s.setPx (shiftDown s.px))) := rfl

@[simp] theorem exec_state (m : SelField) (s : State) :
    exec (.state m) s = .next (finishQuiet false [.readout (image s)] s) := rfl

@[simp] theorem exec_red (m : SelField) (s : State) :
    exec (.red m) s = .next (finish (s.setPx (masked (selection s m)
      (withColor (Config.colorRgb .red).r (Config.colorRgb .red).g (Config.colorRgb .red).b) s.px))) := rfl

@[simp] theorem exec_coral (m : SelField) (s : State) :
    exec (.coral m) s = .next (finish (s.setPx (masked (selection s m)
      (withColor (Config.colorRgb .coral).r (Config.colorRgb .coral).g (Config.colorRgb .coral).b) s.px))) := rfl

@[simp] theorem exec_orange (m : SelField) (s : State) :
    exec (.orange m) s = .next (finish (s.setPx (masked (selection s m)
      (withColor (Config.colorRgb .orange).r (Config.colorRgb .orange).g (Config.colorRgb .orange).b) s.px))) := rfl

@[simp] theorem exec_gold (m : SelField) (s : State) :
    exec (.gold m) s = .next (finish (s.setPx (masked (selection s m)
      (withColor (Config.colorRgb .gold).r (Config.colorRgb .gold).g (Config.colorRgb .gold).b) s.px))) := rfl

@[simp] theorem exec_yellow (m : SelField) (s : State) :
    exec (.yellow m) s = .next (finish (s.setPx (masked (selection s m)
      (withColor (Config.colorRgb .yellow).r (Config.colorRgb .yellow).g (Config.colorRgb .yellow).b) s.px))) := rfl

@[simp] theorem exec_lime (m : SelField) (s : State) :
    exec (.lime m) s = .next (finish (s.setPx (masked (selection s m)
      (withColor (Config.colorRgb .lime).r (Config.colorRgb .lime).g (Config.colorRgb .lime).b) s.px))) := rfl

@[simp] theorem exec_green (m : SelField) (s : State) :
    exec (.green m) s = .next (finish (s.setPx (masked (selection s m)
      (withColor (Config.colorRgb .green).r (Config.colorRgb .green).g (Config.colorRgb .green).b) s.px))) := rfl

@[simp] theorem exec_aqua (m : SelField) (s : State) :
    exec (.aqua m) s = .next (finish (s.setPx (masked (selection s m)
      (withColor (Config.colorRgb .aqua).r (Config.colorRgb .aqua).g (Config.colorRgb .aqua).b) s.px))) := rfl

@[simp] theorem exec_blue (m : SelField) (s : State) :
    exec (.blue m) s = .next (finish (s.setPx (masked (selection s m)
      (withColor (Config.colorRgb .blue).r (Config.colorRgb .blue).g (Config.colorRgb .blue).b) s.px))) := rfl

@[simp] theorem exec_purple (m : SelField) (s : State) :
    exec (.purple m) s = .next (finish (s.setPx (masked (selection s m)
      (withColor (Config.colorRgb .purple).r (Config.colorRgb .purple).g (Config.colorRgb .purple).b) s.px))) := rfl

@[simp] theorem exec_pink (m : SelField) (s : State) :
    exec (.pink m) s = .next (finish (s.setPx (masked (selection s m)
      (withColor (Config.colorRgb .pink).r (Config.colorRgb .pink).g (Config.colorRgb .pink).b) s.px))) := rfl

@[simp] theorem exec_white (m : SelField) (s : State) :
    exec (.white m) s = .next (finish (s.setPx (masked (selection s m)
      (withColor (Config.colorRgb .white).r (Config.colorRgb .white).g (Config.colorRgb .white).b) s.px))) := rfl

@[simp] theorem exec_black (m : SelField) (s : State) :
    exec (.black m) s = .next (finish (s.setPx (masked (selection s m)
      (withColor (Config.colorRgb .black).r (Config.colorRgb .black).g (Config.colorRgb .black).b) s.px))) := rfl

/-- Every command answers a next state (R11, R56). -/
theorem exec_next (i : Instr) (s : State) : ∃ t, exec i s = .next t := by
  cases i
  case bright m a0 =>
    by_cases h : a0.toNat ≤ 31
    · exact ⟨_, exec_bright_of_le m a0 s h⟩
    · exact ⟨_, exec_bright_of_gt m a0 s (Nat.lt_of_not_le h)⟩
  all_goals exact ⟨_, rfl⟩

/-- The opcodes of the three commands that complete with `changed = 0` (R84): NOP, DELAY, STATE. -/
abbrev Quiet (i : Instr) : Prop := i.opcode = 0x00#6 ∨ i.opcode = 0x0C#6 ∨ i.opcode = 0x11#6

/-- Everything a command can do: end with `changed = 1` from a state that differs in the model fields only;
end quietly with events that touch no pin; or, BRIGHT only, raise its range error. -/
theorem exec_shapes (i : Instr) (s : State) :
    (∃ s1, exec i s = .next (finish s1) ∧ s1.pending = s.pending ∧ s1.dcache = s.dcache ∧
      s1.pins = s.pins ∧ s1.out = s.out ∧ ¬ Quiet i ∧ i.wf = true) ∨
    (∃ ev, exec i s = .next (finishQuiet false ev s) ∧ (∀ v, .setData v ∉ ev) ∧
      (∀ v, .setClock v ∉ ev) ∧ pinsAfter s.pins ev = s.pins ∧ Quiet i ∧ i.wf = true) ∨
    (∃ m a0, i = .bright m a0 ∧ 31 < a0.toNat ∧
      exec i s = .next (errorState (.range a0.toNat) s)) := by
  cases i
  case bright m a0 =>
    by_cases h : a0.toNat ≤ 31
    · exact .inl ⟨_, exec_bright_of_le m a0 s h, rfl, rfl, rfl, rfl, by simp [Instr.opcode],
        by simpa [Instr.wf] using h⟩
    · exact .inr (.inr ⟨m, a0, rfl, by omega, exec_bright_of_gt m a0 s (by omega)⟩)
  case nop m => exact .inr (.inl ⟨_, rfl, by simp, by simp, rfl, .inl rfl, rfl⟩)
  case delay m ms => exact .inr (.inl ⟨_, rfl, by simp, by simp, rfl, .inr (.inl rfl), rfl⟩)
  case state m => exact .inr (.inl ⟨_, rfl, by simp, by simp, rfl, .inr (.inr rfl), rfl⟩)
  case rotin =>
    refine .inl ⟨_, rfl, ?_, ?_, ?_, ?_, by simp [Instr.opcode], rfl⟩ <;> (split <;> rfl)
  case rotout =>
    refine .inl ⟨_, rfl, ?_, ?_, ?_, ?_, by simp [Instr.opcode], rfl⟩ <;> (split <;> rfl)
  case rotleft =>
    refine .inl ⟨_, rfl, ?_, ?_, ?_, ?_, by simp [Instr.opcode], rfl⟩ <;>
      (split <;> [rfl; (split <;> rfl)])
  case rotright =>
    refine .inl ⟨_, rfl, ?_, ?_, ?_, ?_, by simp [Instr.opcode], rfl⟩ <;>
      (split <;> [rfl; (split <;> rfl)])
  all_goals exact .inl ⟨_, rfl, rfl, rfl, rfl, rfl, by simp [Instr.opcode], rfl⟩

theorem takeNext_nil {s : State} (h : s.pending = []) : takeNext s = .next s := by
  simp [takeNext, h]

theorem takeNext_cons {s : State} {t : Transaction} {rest : List Transaction}
    (h : s.pending = t :: rest) : takeNext s = transact t (s.setPending rest) := by
  simp [takeNext, h]

theorem command_ok {w : CmdWord} {i : Instr} (h : decode w = .ok i) (s : State) :
    command w s = exec i s := by
  simp [command, h]

theorem command_error {w : CmdWord} {e : Err} (h : decode w = .error e) (s : State) :
    command w s = .next (errorState e s) := by
  simp [command, h, raise]

@[simp] theorem transact_cmd (w : CmdWord) (s : State) : transact (.cmd w) s = command w s := rfl

@[simp] theorem transact_loadImage (img : Image) (ok : Bool) (s : State) :
    transact (.loadImage img ok) s = .next (loadImage img ok s) := rfl

@[simp] theorem transact_reset (s : State) : transact .reset s = .next (doReset s) := rfl

end Sys2Proof.Machine
end

