-- ==== Sys2Proof/Laws/Operands.lean ====
section
/-! SUPPORT. The operand forms bit by bit and pixel by pixel (00_scope.md R9; 40_command_cycle.md R80 to
R83; 45_rotate_commands.md R125), and the image's pixels. -/

namespace Sys2Proof.Machine

/-- `swap8` mirrors the bits (R9). -/
theorem swap8_getLsbD (v : Byte) (i : Fin 8) : (swap8 v).getLsbD i.val = v.getLsbD (7 - i.val) := by
  simp [swap8, BitVec.getElem_reverse, BitVec.getMsbD]

/-- `Dir` bit by bit (R80). -/
theorem dir_getLsbD (s : State) (v : Byte) (i : Fin 8) :
    (dir s v).getLsbD i.val = if s.ltr then v.getLsbD (7 - i.val) else v.getLsbD i.val := by
  unfold dir
  split
  · exact swap8_getLsbD v i
  · rfl

/-- An omitted selection selects every pixel (R81). -/
theorem selection_none (s : State) (m : SelField) (h : m.sp = false) (i : Fin 8) :
    (selection s m).getLsbD i.val = true := by
  simp only [selection, h, Bool.false_eq_true, if_false]
  revert i
  decide

/-- A present selection is read through `Dir` (R81). -/
theorem selection_some (s : State) (m : SelField) (h : m.sp = true) :
    selection s m = dir s m.sel := by
  simp [selection, h]

/-- A masked update pixel by pixel (R83). -/
theorem masked_getElem (sel : Byte) (f : Pixel → Pixel) (px : Vector Pixel 8) (i : Fin 8) :
    (masked sel f px)[i] = if sel.getLsbD i.val then f px[i] else px[i] := by
  simp [masked]

/-- Pixel `i` of a loaded image (R94). -/
theorem imagePixels_getElem (img : Image) (i : Fin 8) : (imagePixels img)[i] = imagePixel img i := by
  simp [imagePixels]

end Sys2Proof.Machine
end

