-- ==== Sys2Proof/Laws/PerInstr.lean ====
section
/-! SUPPORT. The family `Selects`: the word of every command, cut down to its format's mask, is its
opcode-table match value (30_encoding.md R48, R49). One lemma per constructor. -/

namespace Sys2Proof.Laws.Selects

/-- The word of the command matches its row: `(w & mask) = OP` (R48). -/
def Statement (i : Instr) : Prop := encode i &&& i.format.mask = i.opcode.setWidth 48

/-- The word of a command of format N or S, cut down to the mask: `SP` and `SEL` are dropped. -/
theorem of_operands_none (op : BitVec 6) (m : SelField) :
    pack ⟨op, m.sp, false, m.sel, 0, 0, 0, 0⟩ &&& 0xFFFFFFFF00BF#48 =
      pack ⟨op, false, false, 0, 0, 0, 0, 0⟩ := by
  have h : fieldsOf 0xFFFFFFFF00BF#48 = ⟨0x3F#6, false, true, 0, 255, 255, 255, 255⟩ := by decide
  have hop : op &&& 0x3F#6 = op := by revert op; decide
  apply eq_of_fieldsOf_eq
  rw [fieldsOf_and, fieldsOf_pack, fieldsOf_pack, h]
  simp [hop]

/-- The same for format B1: `A0` is dropped too. -/
theorem of_operands_one (op : BitVec 6) (m : SelField) (a0 : Byte) :
    pack ⟨op, m.sp, false, m.sel, a0, 0, 0, 0⟩ &&& 0xFFFFFF0000BF#48 =
      pack ⟨op, false, false, 0, 0, 0, 0, 0⟩ := by
  have h : fieldsOf 0xFFFFFF0000BF#48 = ⟨0x3F#6, false, true, 0, 0, 255, 255, 255⟩ := by decide
  have hop : op &&& 0x3F#6 = op := by revert op; decide
  apply eq_of_fieldsOf_eq
  rw [fieldsOf_and, fieldsOf_pack, fieldsOf_pack, h]
  simp [hop]

/-- The same for format B3. -/
theorem of_operands_three (op : BitVec 6) (m : SelField) (a0 a1 a2 : Byte) :
    pack ⟨op, m.sp, false, m.sel, a0, a1, a2, 0⟩ &&& 0xFF00000000BF#48 =
      pack ⟨op, false, false, 0, 0, 0, 0, 0⟩ := by
  have h : fieldsOf 0xFF00000000BF#48 = ⟨0x3F#6, false, true, 0, 0, 0, 0, 255⟩ := by decide
  have hop : op &&& 0x3F#6 = op := by revert op; decide
  apply eq_of_fieldsOf_eq
  rw [fieldsOf_and, fieldsOf_pack, fieldsOf_pack, h]
  simp [hop]

/-- The same for format D: every operand byte is dropped. -/
theorem of_operands_four (op : BitVec 6) (m : SelField) (a0 a1 a2 rsv1 : Byte) :
    pack ⟨op, m.sp, false, m.sel, a0, a1, a2, rsv1⟩ &&& 0x0000000000BF#48 =
      pack ⟨op, false, false, 0, 0, 0, 0, 0⟩ := by
  have h : fieldsOf 0x0000000000BF#48 = ⟨0x3F#6, false, true, 0, 0, 0, 0, 0⟩ := by decide
  have hop : op &&& 0x3F#6 = op := by revert op; decide
  apply eq_of_fieldsOf_eq
  rw [fieldsOf_and, fieldsOf_pack, fieldsOf_pack, h]
  simp [hop]

/-- The opcode alone, widened to a word, is the word whose other fields are zero. -/
theorem opcode_word (op : BitVec 6) : pack ⟨op, false, false, 0, 0, 0, 0, 0⟩ = op.setWidth 48 := by
  revert op
  decide

theorem nop (m : SelField) : Statement (.nop m) :=
  (of_operands_none _ m).trans (opcode_word _)

theorem off (m : SelField) : Statement (.off m) :=
  (of_operands_none _ m).trans (opcode_word _)

theorem on (m : SelField) : Statement (.on m) :=
  (of_operands_none _ m).trans (opcode_word _)

theorem left (m : SelField) : Statement (.left m) :=
  (of_operands_none _ m).trans (opcode_word _)

theorem right (m : SelField) : Statement (.right m) :=
  (of_operands_none _ m).trans (opcode_word _)

theorem hold (m : SelField) : Statement (.hold m) :=
  (of_operands_none _ m).trans (opcode_word _)

theorem showCmd (m : SelField) : Statement (.showCmd m) :=
  (of_operands_none _ m).trans (opcode_word _)

theorem clear (m : SelField) : Statement (.clear m) :=
  (of_operands_none _ m).trans (opcode_word _)

theorem bright (m : SelField) (a0 : Byte) : Statement (.bright m a0) :=
  (of_operands_one _ m a0).trans (opcode_word _)

theorem rgb (m : SelField) (r g b : Byte) : Statement (.rgb m r g b) :=
  (of_operands_three _ m r g b).trans (opcode_word _)

theorem binoff (m : SelField) : Statement (.binoff m) :=
  (of_operands_none _ m).trans (opcode_word _)

theorem binary (m : SelField) (a0 : Byte) : Statement (.binary m a0) :=
  (of_operands_one _ m a0).trans (opcode_word _)

theorem delay (m : SelField) (ms : BitVec 32) : Statement (.delay m ms) :=
  (of_operands_four _ m _ _ _ _).trans (opcode_word _)

theorem rotin (m : SelField) : Statement (.rotin m) :=
  (of_operands_none _ m).trans (opcode_word _)

theorem rotout (m : SelField) : Statement (.rotout m) :=
  (of_operands_none _ m).trans (opcode_word _)

theorem rotleft (m : SelField) : Statement (.rotleft m) :=
  (of_operands_none _ m).trans (opcode_word _)

theorem rotright (m : SelField) : Statement (.rotright m) :=
  (of_operands_none _ m).trans (opcode_word _)

theorem state (m : SelField) : Statement (.state m) :=
  (of_operands_none _ m).trans (opcode_word _)

theorem red (m : SelField) : Statement (.red m) :=
  (of_operands_none _ m).trans (opcode_word _)

theorem coral (m : SelField) : Statement (.coral m) :=
  (of_operands_none _ m).trans (opcode_word _)

theorem orange (m : SelField) : Statement (.orange m) :=
  (of_operands_none _ m).trans (opcode_word _)

theorem gold (m : SelField) : Statement (.gold m) :=
  (of_operands_none _ m).trans (opcode_word _)

theorem yellow (m : SelField) : Statement (.yellow m) :=
  (of_operands_none _ m).trans (opcode_word _)

theorem lime (m : SelField) : Statement (.lime m) :=
  (of_operands_none _ m).trans (opcode_word _)

theorem green (m : SelField) : Statement (.green m) :=
  (of_operands_none _ m).trans (opcode_word _)

theorem aqua (m : SelField) : Statement (.aqua m) :=
  (of_operands_none _ m).trans (opcode_word _)

theorem blue (m : SelField) : Statement (.blue m) :=
  (of_operands_none _ m).trans (opcode_word _)

theorem purple (m : SelField) : Statement (.purple m) :=
  (of_operands_none _ m).trans (opcode_word _)

theorem pink (m : SelField) : Statement (.pink m) :=
  (of_operands_none _ m).trans (opcode_word _)

theorem white (m : SelField) : Statement (.white m) :=
  (of_operands_none _ m).trans (opcode_word _)

theorem black (m : SelField) : Statement (.black m) :=
  (of_operands_none _ m).trans (opcode_word _)

end Sys2Proof.Laws.Selects
end

