-- ==== Sys2Proof/Laws/Rows.lean ====
section
/-! SUPPORT. When a word matches a row of the opcode table, and what the decoder answers for a word whose
opcode is known (30_encoding.md R48, R55). -/

namespace Sys2Proof

/-- A word matches its own opcode under a format's mask exactly when bit 7 is clear and the format's
must-be-zero field is zero (R48, R52). -/
theorem matches_iff (fmt : Format) (w : CmdWord) :
    w &&& fmt.mask = (fieldsOf w).op.setWidth 48 ↔
      (fieldsOf w).rsv0 = false ∧ mustBeZeroFault fmt (fieldsOf w) = none := by
  have hand : ∀ v : Byte, v &&& 255#8 = v := by decide
  have hand6 : ∀ v : BitVec 6, v &&& 0x3F#6 = v := by decide
  have hw : fieldsOf ((fieldsOf w).op.setWidth 48) = ⟨(fieldsOf w).op, false, false, 0, 0, 0, 0, 0⟩ := by
    rw [← Laws.Selects.opcode_word, fieldsOf_pack]
  have hm : fieldsOf fmt.mask = ⟨0x3F#6, false, true, 0, (fieldsOf fmt.mask).a0, (fieldsOf fmt.mask).a1,
      (fieldsOf fmt.mask).a2, (fieldsOf fmt.mask).rsv1⟩ := by cases fmt <;> decide
  have key : w &&& fmt.mask = (fieldsOf w).op.setWidth 48 ↔
      fieldsOf (w &&& fmt.mask) = fieldsOf ((fieldsOf w).op.setWidth 48) :=
    ⟨fun h => by rw [h], eq_of_fieldsOf_eq⟩
  rw [key, fieldsOf_and, hw, hm]
  simp only [Fields.mk.injEq, hand6, Bool.and_false, Bool.and_true, true_and]
  cases fmt
  · rw [show fieldsOf Format.n.mask = ⟨0x3F#6, false, true, 0, 255, 255, 255, 255⟩ by decide]
    simp [hand, mustBeZeroFault, msOf_eq_zero]
  · rw [show fieldsOf Format.s.mask = ⟨0x3F#6, false, true, 0, 255, 255, 255, 255⟩ by decide]
    simp [hand, mustBeZeroFault, msOf_eq_zero]
  · rw [show fieldsOf Format.b1.mask = ⟨0x3F#6, false, true, 0, 0, 255, 255, 255⟩ by decide]
    simp [hand, mustBeZeroFault]; grind
  · rw [show fieldsOf Format.b3.mask = ⟨0x3F#6, false, true, 0, 0, 0, 0, 255⟩ by decide]
    simp [hand, mustBeZeroFault]
  · rw [show fieldsOf Format.d.mask = ⟨0x3F#6, false, true, 0, 0, 0, 0, 0⟩ by decide]
    simp [mustBeZeroFault]

/-- The decoder on a word whose opcode has the format `fmt` and stands for the command `i`: that command
when the word matches its row, and `ERR_RESERVED` (code 2) otherwise. -/
theorem decode_of_match {fmt : Format} {i : Instr} (w : CmdWord) (hf : formatOf (fieldsOf w).op = some fmt)
    (hc : commandOf (fieldsOf w) = some i) :
    if w &&& fmt.mask = (fieldsOf w).op.setWidth 48 then decode w = .ok i
    else ∃ e, decode w = .error e ∧ e.code = 2 := by
  simp only [matches_iff, decode, decodeFields, hf, hc]
  by_cases hr : (fieldsOf w).rsv0 = true
  · simp [hr, Err.code]
  · rw [Bool.not_eq_true] at hr
    cases hz : mustBeZeroFault fmt (fieldsOf w) with
    | none => simp [hr]
    | some p => simp [hr, Err.code]

end Sys2Proof
end

