-- ==== Sys2Proof/Tests/Slice0.lean ====
section
/-! SUPPORT. The model's own tests. Every expected value is a worked example or a derived vector of
spec/95_test_vectors.md, an example of the rule named, or a word put together by hand from the layout of
30_encoding.md R47.  One step each.  `N_END` and `COLOR_RGB` are constants without a value, so a test of a
rendered frame reads `frameBytes`, `frameBits` or `sendBits`, and a test of a command runs it with `hold` set,
where nothing is rendered, or reads the model fields. -/

namespace Sys2Proof.Tests

open Sys2Proof.Machine Sys2Proof.Claims

/- ## Helpers -/

/-- No selection. -/
def noSel : SelField := ⟨false, 0⟩

/-- The reset state with `hold` set. -/
def held : State := State.reset.setHold true

/-- Eight pixels that can be told apart. -/
def eight : Vector Pixel 8 :=
  #v[⟨1, 10, 20, 30⟩, ⟨2, 11, 21, 31⟩, ⟨3, 12, 22, 32⟩, ⟨4, 13, 23, 33⟩,
     ⟨5, 14, 24, 34⟩, ⟨6, 15, 25, 35⟩, ⟨7, 16, 26, 36⟩, ⟨8, 17, 27, 37⟩]

/-- The held state with those pixels. -/
def heldEight : State := held.setPx eight

/-- The held state in binary mode with a mask. -/
def heldMask (v : Byte) : State := (held.setBin true).setBmask v

/-- A state of one's own with one transaction presented. -/
def presenting (t : Transaction) (s : State) : State := s.setPending [t]

/-- The next state of an outcome, or a given state where there is none. -/
def nextOr (d : State) : Outcome → State
  | .next t => t
  | .fault _ => d
  | .refused _ => d

/-- The state after a command. -/
def after (i : Instr) (s : State) : State := nextOr s (exec i s)

/-- The state after a step. -/
def stepped (s : State) : State := nextOr s (step s)

/-- The tags of the brightness of each pixel, which name the pixels of `eight`. -/
def tags (s : State) : List Nat := s.px.toList.map fun p => p.br.toNat

/-- The image after reset: `03 FF (07 00 00 00)x8`. -/
def resetImage : Image :=
  #v[0x03, 0xFF, 7, 0, 0, 0, 7, 0, 0, 0, 7, 0, 0, 0, 7, 0, 0, 0, 7, 0, 0, 0, 7, 0, 0, 0, 7, 0, 0, 0, 7, 0, 0, 0]

/-- The image `0A 05 (1F 10 20 30)x8` of section 2.10 and program P4. -/
def loadedImage : Image :=
  #v[0x0A, 0x05, 0x1F, 0x10, 0x20, 0x30, 0x1F, 0x10, 0x20, 0x30, 0x1F, 0x10, 0x20, 0x30, 0x1F, 0x10, 0x20, 0x30,
     0x1F, 0x10, 0x20, 0x30, 0x1F, 0x10, 0x20, 0x30, 0x1F, 0x10, 0x20, 0x30, 0x1F, 0x10, 0x20, 0x30]

/-- How many data and clock events a render of 288 + n bits emits. -/
def eventCounts (n : Nat) (s : State) : Nat × Nat :=
  ((dataValues (renderWith n s).2).length, (clockValues (renderWith n s).2).length)

/- ## Well-formedness -/

/-- R107: brightness 0..31 is legal. -/
theorem test_wf_bright_top : (Instr.bright noSel 31).wf = true := by decide

/-- R107: 32 is out of range, and so is every larger value. -/
theorem test_wf_bright_refused : (Instr.bright noSel 32).wf = false ∧ (Instr.bright noSel 255).wf = false := by
  decide

/-- R108, R124, R131: every value of the other operands is legal. -/
theorem test_wf_others : (Instr.rgb noSel 255 255 255).wf = true ∧ (Instr.binary noSel 255).wf = true ∧
    (Instr.delay noSel 0xFFFFFFFF).wf = true := by decide

/- ## Decoding: every constructor by a word -/

/-- OFF, bit by bit: RSV1 A2 A1 A0 SEL, then RSV0, SP, OP = 000001 (R47, R49). -/
theorem test_decode_off : decode 0b00000000_00000000_00000000_00000000_00000000_0_0_000001#48 =
    .ok (.off ⟨false, 0⟩) := by decide

/-- BRIGHT 31 with SEL = 11000000, bit by bit (R58: `sel=0xC0 BRIGHT 31`). -/
theorem test_decode_bright : decode 0b00000000_00000000_00000000_00011111_11000000_0_1_001000#48 =
    .ok (.bright ⟨true, 0xC0⟩ 31) := by decide

/-- RGB 255, 0, 0 with SEL = 10000000, bit by bit (section 2.5). -/
theorem test_decode_rgb : decode 0b00000000_00000000_00000000_11111111_10000000_0_1_001001#48 =
    .ok (.rgb ⟨true, 0x80⟩ 255 0 0) := by decide

/-- BINARY 15, bit by bit (W9). -/
theorem test_decode_binary : decode 0b00000000_00000000_00000000_00001111_00000000_0_0_001011#48 =
    .ok (.binary ⟨false, 0⟩ 15) := by decide

/-- ROTLEFT with SEL = 10000000, bit by bit (section 2.7). -/
theorem test_decode_rotleft : decode 0b00000000_00000000_00000000_00000000_10000000_0_1_001111#48 =
    .ok (.rotleft ⟨true, 0x80⟩) := by decide

/-- DELAY 500, bit by bit: MS is the top 32 bits (R131). -/
theorem test_decode_delay : decode 0b00000000_00000000_00000001_11110100_00000000_0_0_001100#48 =
    .ok (.delay ⟨false, 0⟩ 500) := by decide

/-- CORAL with SEL = 00010000, bit by bit (section 2.2, `p3 coral`). -/
theorem test_decode_coral : decode 0b00000000_00000000_00000000_00000000_00010000_0_1_100001#48 =
    .ok (.coral ⟨true, 0x10⟩) := by decide

/-- BLACK, bit by bit (section 2.2). -/
theorem test_decode_black : decode 0b00000000_00000000_00000000_00000000_00000000_0_0_101100#48 =
    .ok (.black ⟨false, 0⟩) := by decide

/-- The other flag commands, by their words in R101 to R106. -/
theorem test_decode_flags : decode 0x000000000002#48 = .ok (.on noSel) ∧
    decode 0x000000000003#48 = .ok (.left noSel) ∧ decode 0x000000000004#48 = .ok (.right noSel) ∧
    decode 0x000000000005#48 = .ok (.hold noSel) ∧ decode 0x000000000006#48 = .ok (.showCmd noSel) ∧
    decode 0x000000000007#48 = .ok (.clear noSel) := by decide

/-- NOP (with SP set, too), STATE, BINOFF and the other rotations, by their words in R123, R126 to R132. -/
theorem test_decode_no_operand : decode 0x000000000000#48 = .ok (.nop noSel) ∧
    decode 0x000000000040#48 = .ok (.nop ⟨true, 0⟩) ∧ decode 0x000000000011#48 = .ok (.state noSel) ∧
    decode 0x00000000000A#48 = .ok (.binoff noSel) ∧ decode 0x00000000000D#48 = .ok (.rotin noSel) ∧
    decode 0x00000000000E#48 = .ok (.rotout noSel) ∧ decode 0x000000000010#48 = .ok (.rotright noSel) := by decide

/-- The other colours, by their words in R110 to R121. -/
theorem test_decode_colors : decode 0x000000000020#48 = .ok (.red noSel) ∧
    decode 0x000000000022#48 = .ok (.orange noSel) ∧ decode 0x000000000063#48 = .ok (.gold ⟨true, 0⟩) ∧
    decode 0x000000000024#48 = .ok (.yellow noSel) ∧ decode 0x000000008065#48 = .ok (.lime ⟨true, 0x80⟩) ∧
    decode 0x000000000026#48 = .ok (.green noSel) ∧ decode 0x000000000027#48 = .ok (.aqua noSel) ∧
    decode 0x000000000028#48 = .ok (.blue noSel) ∧ decode 0x000000000029#48 = .ok (.purple noSel) ∧
    decode 0x00000000002A#48 = .ok (.pink noSel) ∧ decode 0x00000000002B#48 = .ok (.white noSel) := by decide

/-- Operands in three bytes, and DELAY with every operand bit set (sections 2.2, 2.3). -/
theorem test_decode_operands : decode 0x000302010009#48 = .ok (.rgb noSel 1 2 3) ∧
    decode 0xFFFFFFFFFF4C#48 = .ok (.delay ⟨true, 0xFF⟩ 4294967295) := by decide

/-- The refusals of section 2.3, in the priority of R152. -/
theorem test_decode_errors : decode 0x000000000012#48 = .error (.unrecognized 0x12#6) ∧
    decode 0x00000000002D#48 = .error (.unrecognized 0x2D#6) ∧
    decode 0x0000000000BF#48 = .error (.unrecognized 0x3F#6) ∧
    decode 0x000000000081#48 = .error (.reserved 7 7) ∧ decode 0x000000010001#48 = .error (.reserved 47 16) ∧
    decode 0x000000200088#48 = .error (.reserved 7 7) ∧ decode 0x000100000008#48 = .error (.reserved 47 24) ∧
    decode 0x010000000009#48 = .error (.reserved 47 40) ∧
    decode 0x0000FF000020#48 = .error (.reserved 47 16) := by decide

/-- R37: `0x0000001FC048` on a byte-wide path is 48 C0 1F 00 00 00. -/
theorem test_word_bytes : Vector.ofFn (wordByte 0x0000001FC048#48) = #v[0x48, 0xC0, 0x1F, 0, 0, 0] := by decide

/-- The table word of BRIGHT through the byte-wide path (R49). -/
theorem test_decode_table_word : decodeTableWord 24 0x1F0008 = some (.bright noSel 31) := by decide

/-- R58's example of a listing and of a word written out. -/
theorem test_listing :
    listing (.bright ⟨true, 0xC0⟩ 31) = "sel=0xC0 BRIGHT 31".toList ∧
    listing (.rgb noSel 255 0 0) = "RGB 255, 0, 0".toList ∧
    wordListing 0x0000001FC048#48 = "0x0000001FC048".toList := by decide

/- ## The parser and the transcriber -/

/-- Section 2.1: values of `parse_number(t, 10)`, W1 to W5 among them. -/
theorem test_parse_base_ten : parseValue ['p', '0'] 10 = some 0x80 ∧ parseValue ['p', '7'] 10 = some 1 ∧
    parseValue ['x', 'F', 'F'] 10 = some 255 ∧ parseValue ['b', '1', '0'] 10 = some 2 ∧
    parseValue ['-', '5'] 10 = some 0 ∧ parseValue ['3', '0', '0'] 10 = some 300 ∧
    parseNumber ['3', '0', '0'] 10 = some 44 ∧ parseValue ['p', '1', '0'] 10 = none ∧
    parseValue ['X', '1', 'F'] 10 = none := by decide

/-- Section 2.1: values of `parse_number(t, 2)`. -/
theorem test_parse_base_two : parseNumber ['1', '1', '0', '0', '0', '0', '0', '0'] 2 = some 0xC0 ∧
    parseNumber ['1', '0', '1'] 2 = some 5 ∧ parseNumber ['2'] 2 = none ∧ parseNumber ['p', '3'] 2 = some 0x10 ∧
    parseNumber ['x', '1', '0', '0'] 2 = some 0 ∧ parseNumber ['-', '5'] 2 = none ∧
    parseNumber ['-', '1'] 2 = some 0 ∧ parseNumber ['0', 'b', '0', '0'] 2 = none := by decide

/-- Section 2.1: `is_numeric_token`. -/
theorem test_is_numeric : isNumericToken ['p', '3'] = true ∧ isNumericToken ['p', '8'] = false ∧
    isNumericToken ['p', '1', '0'] = true ∧ isNumericToken ['b'] = false ∧ isNumericToken ['x', 'g'] = false ∧
    isNumericToken ['B', '1', '0'] = false ∧ isNumericToken ['-', '5'] = false ∧
    isNumericToken ['b', 'l', 'u', 'e'] = false ∧ isNumericToken ['p', 'u', 'r'] = false := by decide

/-- Section 2.2: directives and their words. -/
theorem test_transcribe_words :
    transcribe [['1', '1', '1', '1', '1', '1', '1', '1'], ['o', 'f', 'f']] = .word 0x00000000FF41#48 ∧
    transcribe [['p', '0'], ['r', 'g', 'b'], ['2', '5', '5'], ['0'], ['0']] = .word 0x000000FF8049#48 ∧
    transcribe [['r', 'g', 'b']] = .word 0x000000000009#48 ∧
    transcribe [['r', 'g', 'b'], ['9']] = .word 0x000000090009#48 ∧
    transcribe [['b', 'r', 'i', 'g', 'h', 't'], ['x', '1', 'F']] = .word 0x0000001F0008#48 ∧
    transcribe [['b', 'r', 'i', 'g', 'h', 't'], ['-', '5']] = .word 0x000000000008#48 ∧
    transcribe [['1', '0', '1'], ['b', 'r', 'i', 'g', 'h', 't'], ['3']] = .word 0x000000030548#48 := by decide

/-- Section 2.2: directives and their words. -/
theorem test_transcribe_more_words :
    transcribe [['b', 'i', 'n', 'a', 'r', 'y'], ['3', '0', '0']] = .word 0x0000002C000B#48 ∧
    transcribe [['b', 'i', 'n', 'a', 'r', 'y'], ['o', 'f', 'f']] = .word 0x00000000000A#48 ∧
    transcribe [['d', 'e', 'l', 'a', 'y'], ['4', '2', '9', '4', '9', '6', '7', '2', '9', '5']] = .word 0xFFFFFFFF000C#48 ∧
    transcribe [['r', 'o', 't', 'a', 't', 'e'], ['i', 'n']] = .word 0x00000000000D#48 ∧
    transcribe [['r', 'o', 't', 'a', 't', 'e'], ['o', 'u', 't']] = .word 0x00000000000E#48 ∧
    transcribe [['r', 'o', 't', 'a', 't', 'e'], ['l', 'e', 'f', 't']] = .word 0x00000000000F#48 ∧
    transcribe [['r', 'o', 't', 'a', 't', 'e'], ['r', 'i', 'g', 'h', 't']] = .word 0x000000000010#48 ∧
    transcribe [['s', 't', 'a', 't', 'e'], ['j', 'u', 'n', 'k']] = .word 0x000000000011#48 ∧
    transcribe [['0'], ['g', 'o', 'l', 'd']] = .word 0x000000000063#48 ∧
    transcribe [['p', '3'], ['c', 'o', 'r', 'a', 'l']] = .word 0x000000001061#48 := by decide

/-- Section 2.2: refusals, range errors and host text; W8. -/
theorem test_transcribe_refused :
    transcribe [['r', 'g', 'b'], ['2', '5', '6'], ['0'], ['0']] = .failed (.range 256) ∧
    transcribe [['r', 'g', 'b'], ['1'], ['2'], ['x']] = .failed (.operand 3) ∧
    transcribe [['b', 'r', 'i', 'g', 'h', 't'], ['3', '2']] = .failed (.range 32) ∧
    transcribe [['b', 'r', 'i', 'g', 'h', 't'], ['2', '8', '8']] = .failed (.range 288) ∧
    transcribe [['b', 'r', 'i', 'g', 'h', 't']] = .failed (.operand 1) ∧
    transcribe [['d', 'e', 'l', 'a', 'y'], ['4', '2', '9', '4', '9', '6', '7', '2', '9', '6']] = .failed (.range 4294967296) ∧
    transcribe [['r', 'o', 't', 'a', 't', 'e'], ['u', 'p']] = .failed (.operand 1) ∧
    transcribe [['R', 'e', 'd']] = .failed (.unknownName 0) ∧
    transcribe [['p', '8'], ['r', 'e', 'd']] = .failed (.unknownName 0) ∧
    transcribe [['p', '1', '0'], ['r', 'e', 'd']] = .failed (.operand 0) ∧
    transcribe [['-', '5'], ['r', 'e', 'd']] = .failed (.unknownName 0) ∧
    transcribe [['h', 'e', 'l', 'p']] = .hostText ∧
    transcribe [['1', '1'], ['h', 'e', 'l', 'p']] = .hostText ∧
    transcribe [] = .hostText := by decide

/- ## Operand forms -/

/-- W6: `swap8(0b10000000) = 0b00000001`, and `swap8` is its own inverse. -/
theorem test_swap8 : swap8 0b10000000#8 = 0b00000001#8 ∧ swap8 (swap8 0x1D#8) = 0x1D#8 := by decide

/-- R107, R109: `Dir(0xC0)` is 0x03 when `ltr = 1` and 0xC0 when `ltr = 0`; an omitted selection is 0xFF. -/
theorem test_selection : selection State.reset ⟨true, 0xC0⟩ = 0x03#8 ∧
    selection (State.reset.setLtr false) ⟨true, 0xC0⟩ = 0xC0#8 ∧ selection State.reset ⟨false, 0xC0⟩ = 0xFF#8 := by
  decide

/-- Section 2.7, rows 0x81 and 0x0A. -/
theorem test_mask_rotations : maskIn 0x81 = 0x42#8 ∧ maskOut 0x81 = 0x18#8 ∧ rotl8 0x81 = 0x03#8 ∧
    rotr8 0x81 = 0xC0#8 ∧ maskIn 0x0A = 0x05#8 ∧ maskOut 0x0A = 0x05#8 ∧ rotl8 0x0A = 0x14#8 ∧
    rotr8 0x0A = 0x05#8 := by decide

/- ## The commands -/

/-- OFF while held: `on` to 0, `hold` stays, changed 1, not rendered (section 2.4). -/
theorem test_off : (after (.off noSel) held).on = false ∧ (after (.off noSel) held).hold = true ∧
    (after (.off noSel) held).out = [.cmd ⟨.ok, true, false⟩ []] := by decide

/-- ON from `hold = 1`, `on = 0` (section 2.4); it renders. -/
theorem test_on : (after (.on noSel) (held.setOn false)).on = true ∧
    (after (.on noSel) (held.setOn false)).hold = false := by decide

/-- LEFT and RIGHT, while held (R102, R103). -/
theorem test_left_right : (after (.left noSel) (held.setLtr false)).ltr = true ∧
    (after (.right noSel) held).ltr = false ∧ (after (.right noSel) heldEight).px = eight := by decide

/-- HOLD from reset: no events, changed 1 (section 2.4). -/
theorem test_hold : (after (.hold noSel) State.reset).hold = true ∧
    (after (.hold noSel) State.reset).out = [.cmd ⟨.ok, true, false⟩ []] := by decide

/-- SHOW: `hold` to 0 (section 2.4). -/
theorem test_show : (after (.showCmd noSel) heldEight).hold = false ∧
    (after (.showCmd noSel) heldEight).px = eight := by decide

/-- CLEAR from `ltr = 0`, `bin = 1`, `bmask = 0x05`, `on = 0`, other pixels (section 2.4). -/
theorem test_clear :
    let s := after (.clear noSel) (((((heldEight.setLtr false).setBin true).setBmask 5).setOn false))
    s.ltr = false ∧ s.on = true ∧ s.hold = false ∧ s.bin = false ∧ s.bmask = 0xFF#8 ∧
      s.px = Vector.replicate 8 ⟨7, 0, 0, 0⟩ := by decide

/-- `11000000 bright 31` with `ltr = 1` and `ltr = 0` (section 2.5). -/
theorem test_bright : tags (after (.bright ⟨true, 0xC0⟩ 31) held) = [31, 31, 7, 7, 7, 7, 7, 7] ∧
    tags (after (.bright ⟨true, 0xC0⟩ 31) (held.setLtr false)) = [7, 7, 7, 7, 7, 7, 31, 31] := by decide

/-- BRIGHT 32: ERR_RANGE, nothing changed, no events (section 2.3). -/
theorem test_bright_range : after (.bright noSel 32) held =
    held.setOut [.cmd ⟨.range 32, false, false⟩ []] := by decide

/-- `p0 rgb 255 0 0` and `0 rgb 9 9 9` (section 2.5). -/
theorem test_rgb : (after (.rgb ⟨true, 0x80⟩ 255 0 0) held).px[0] = ⟨7, 255, 0, 0⟩ ∧
    (after (.rgb ⟨true, 0x80⟩ 255 0 0) held).px[1] = ⟨7, 0, 0, 0⟩ ∧
    (after (.rgb ⟨true, 0⟩ 9 9 9) heldEight).px = eight := by decide

/-- `p3 coral` with `ltr = 1`: only pixel 3, brightness kept (section 2.5). -/
theorem test_coral : (after (.coral ⟨true, 0x10⟩) heldEight).px[3] =
      ⟨4, (Config.colorRgb .coral).r, (Config.colorRgb .coral).g, (Config.colorRgb .coral).b⟩ ∧
    (after (.coral ⟨true, 0x10⟩) heldEight).px[4] = eight[4] := ⟨rfl, rfl⟩

/-- `p0 lime` with `ltr = 0`: pixel 7 (section 2.5). -/
theorem test_lime : (after (.lime ⟨true, 0x80⟩) (heldEight.setLtr false)).px[7] =
      ⟨8, (Config.colorRgb .lime).r, (Config.colorRgb .lime).g, (Config.colorRgb .lime).b⟩ ∧
    (after (.lime ⟨true, 0x80⟩) (heldEight.setLtr false)).px[0] = eight[0] := ⟨rfl, rfl⟩

/-- `binary off` keeps the mask (section 2.6). -/
theorem test_binoff : (after (.binoff noSel) (heldMask 5)).bin = false ∧
    (after (.binoff noSel) (heldMask 5)).bmask = 0x05#8 := by decide

/-- `binary 15` with `ltr = 1` (W9) and `ltr = 0` (section 2.6). -/
theorem test_binary : (after (.binary noSel 15) held).bmask = 0xF0#8 ∧ (after (.binary noSel 15) held).bin = true ∧
    (after (.binary noSel 15) (held.setLtr false)).bmask = 0x0F#8 := by decide

/-- `p0 binary 0` with `ltr = 0` and `ltr = 1`, and `0 binary 0` (section 2.6). -/
theorem test_binary_selected : (after (.binary ⟨true, 0x80⟩ 0) (held.setLtr false)).bmask = 0x7F#8 ∧
    (after (.binary ⟨true, 0x80⟩ 0) held).bmask = 0xFE#8 ∧ (after (.binary ⟨true, 0⟩ 0) held).bmask = 0xFF#8 := by
  decide

/-- ROTIN: `A B C D E F G H` becomes `D A B C F G H E` (W13); mask 0x81 becomes 0x42 (W14). -/
theorem test_rotin : tags (after (.rotin noSel) heldEight) = [4, 1, 2, 3, 6, 7, 8, 5] ∧
    (after (.rotin noSel) (heldMask 0x81)).bmask = 0x42#8 := by decide

/-- ROTOUT: `B C D A H E F G`; mask 0x42 becomes 0x81 (section 2.7). -/
theorem test_rotout : tags (after (.rotout noSel) heldEight) = [2, 3, 4, 1, 8, 5, 6, 7] ∧
    (after (.rotout noSel) (heldMask 0x42)).bmask = 0x81#8 := by decide

/-- ROTLEFT on pixels for both values of `ltr`, and on the mask (section 2.7). -/
theorem test_rotleft : tags (after (.rotleft noSel) (heldEight.setLtr false)) = [8, 1, 2, 3, 4, 5, 6, 7] ∧
    tags (after (.rotleft noSel) heldEight) = [2, 3, 4, 5, 6, 7, 8, 1] ∧
    (after (.rotleft noSel) (heldMask 0x42)).bmask = 0x84#8 := by decide

/-- ROTRIGHT on pixels for both values of `ltr`, and on the mask (section 2.7). -/
theorem test_rotright : tags (after (.rotright noSel) (heldEight.setLtr false)) = [2, 3, 4, 5, 6, 7, 8, 1] ∧
    tags (after (.rotright noSel) heldEight) = [8, 1, 2, 3, 4, 5, 6, 7] ∧
    (after (.rotright noSel) (heldMask 0x42)).bmask = 0x21#8 := by decide

/-- NOP and DELAY 500 from reset, with `hold = 0` (section 2.8). -/
theorem test_nop_delay :
    after (.nop noSel) State.reset = State.reset.setOut [.cmd ⟨.ok, false, false⟩ []] ∧
    after (.delay noSel 500) State.reset = State.reset.setOut [.cmd ⟨.ok, false, false⟩ [.delay 500]] := by decide

/-- STATE on a freshly defaulted model (W7). -/
theorem test_state : after (.state noSel) State.reset =
    State.reset.setOut [.cmd ⟨.ok, false, false⟩ [.readout resetImage]] := by decide

/- ## Frames -/

/-- W15, section 2.9: the frame of the reset state and of `on = 0`, and one bit of the binary mask. -/
theorem test_control_bytes : (List.finRange 8).map (ctrl State.reset) = List.replicate 8 0xE7 ∧
    (List.finRange 8).map (ctrl (State.reset.setOn false)) = List.replicate 8 0xE0 ∧
    (List.finRange 8).map (ctrl ((State.reset.setBin true).setBmask 1)) = 0xE7 :: List.replicate 7 0xE0 := by decide

/-- Section 2.9: loaded brightness 0x28, 0xFF and 0x20. -/
theorem test_control_reserved_bits :
    ctrl (State.reset.setPx (Vector.replicate 8 ⟨0x28, 0, 0, 0⟩)) 0 = 0xE8#8 ∧
    ctrl (State.reset.setPx (Vector.replicate 8 ⟨0xFF, 0, 0, 0⟩)) 0 = 0xFF#8 ∧
    ctrl (State.reset.setPx (Vector.replicate 8 ⟨0x20, 0, 0, 0⟩)) 0 = 0xE0#8 := by decide

/-- Control, blue, green, red, and the colours sent while `on = 0` (section 2.9). -/
theorem test_frame_bytes :
    (frameBytes (State.reset.setPx (Vector.replicate 8 ⟨7, 1, 2, 3⟩))).take 4 = [0xE7, 3, 2, 1] ∧
    (frameBytes ((State.reset.setPx (Vector.replicate 8 ⟨31, 255, 0, 0⟩)).setOn false)).take 4 =
      [0xE0, 0, 0, 0xFF] := by decide

/-- Section 2.9: data and clock events of the reset state's render, `dcache` UNSET and L0. -/
theorem test_counts_reset : eventCounts 36 State.reset = (33, 648) ∧
    eventCounts 36 (State.reset.setDcache .l0) = (32, 648) := by decide +kernel

/-- Section 2.9: all bits set, and `N_END = 40`. -/
theorem test_counts_full :
    eventCounts 36 ((State.reset.setDcache .l0).setPx (Vector.replicate 8 ⟨31, 255, 255, 255⟩)) = (2, 648) ∧
    eventCounts 40 (State.reset.setDcache .l0) = (32, 656) := by decide +kernel

/-- Section 2.9: the first events of the reset state's render, and those of the first control byte. -/
theorem test_first_events :
    (sendBits .unset [false, false]).2 =
      [.setData false, .setClock true, .setClock false, .setClock true, .setClock false] ∧
    dataValues (sendBits .l0 (byteBits 0xE7)).2 = [true, false, true] := by decide

/- ## The state port, reset and the host's file -/

/-- The image after reset (section 2.10). -/
theorem test_image_reset : image State.reset = resetImage ∧ imgRead State.reset 34 = none := by decide

/-- `LOAD_IMAGE(0A 05 (1F 10 20 30)x8, ok = 1)` (section 2.10). -/
theorem test_load : stepped (presenting (.loadImage loadedImage true) State.reset) =
    ((((State.reset.setLtr false).setBin true).setBmask 5).setPx (Vector.replicate 8 ⟨31, 0x30, 0x20, 0x10⟩)).setOut
      [.load ⟨.ok, false⟩] := by decide

/-- `LOAD_IMAGE(anything, ok = 0)`: reset values, `dcache` kept, `recovered = 1` (section 2.10). -/
theorem test_load_invalid : stepped (presenting (.loadImage loadedImage false) (heldEight.setDcache .l0)) =
    (State.reset.setDcache .l0).setOut [.load ⟨.ok, true⟩] := by decide

/-- Reset: every field of R29, nothing reported (R165, R89). -/
theorem test_reset : stepped (presenting .reset ((heldEight.setDcache .l0).setPins ⟨.low, .low⟩)) = State.reset := by
  decide

/-- The file saved after reset (section 2.10), and it reads back as the reset image. -/
theorem test_save : saveFile State.reset =
      "left\non\noff\noff\n255\n7 0 0 0\n7 0 0 0\n7 0 0 0\n7 0 0 0\n7 0 0 0\n7 0 0 0\n7 0 0 0\n7 0 0 0\n".toList ∧
    readFile (saveFile State.reset) = some resetImage := by decide

/-- A line other than `on` reads as 0; seven pixel lines and a channel of 256 are refused (section 2.10). -/
theorem test_read_file :
    (readFile ("right\noff\non\non\n5\n".toList ++ (List.replicate 8 "7 0 0 0\n".toList).flatten)).map (·[0]) =
      some 0x0C#8 ∧
    (readFile ("left\nyes\noff\noff\n255\n".toList ++ (List.replicate 8 "7 0 0 0\n".toList).flatten)).map (·[0]) =
      some 0x01#8 ∧
    readFile ("left\non\noff\noff\n255\n".toList ++ (List.replicate 7 "7 0 0 0\n".toList).flatten) = none ∧
    readFile ("left\non\noff\noff\n255\n".toList ++ (List.replicate 8 "7 256 0 0\n".toList).flatten) = none := by
  decide

/-- The step runs the word that `withFetchWord` presents (R79). -/
theorem test_fetch_word : stepped (State.reset.withFetchWord 48 0x000000000005) = after (.hold noSel) State.reset := by
  decide

/- ## Witnesses: for each statement with hypotheses, a state and operands that meet them -/

theorem test_witness_encode_of_decode : decode 0x0000001FC048#48 = .ok (.bright ⟨true, 0xC0⟩ 31) ∧
    encode (.bright ⟨true, 0xC0⟩ 31) = 0x0000001FC048#48 := by decide

/-- Both ends of both reserved ranges. -/
theorem test_witness_reserved_opcode : ∀ n ∈ [0x12, 0x1F, 0x2D, 0x3F],
    (presenting (.cmd (BitVec.ofNat 48 n)) held).pending = [.cmd (BitVec.ofNat 48 n)] ∧
    ((0x12 ≤ ((BitVec.ofNat 48 n).extractLsb' 0 6).toNat ∧ ((BitVec.ofNat 48 n).extractLsb' 0 6).toNat ≤ 0x1F) ∨
      0x2D ≤ ((BitVec.ofNat 48 n).extractLsb' 0 6).toNat) := by
  decide

/-- Both ends of both assigned ranges, with bit 7 set. -/
theorem test_witness_reserved_bit_seven : ∀ n ∈ [0x80, 0x91, 0xA0, 0xAC],
    (BitVec.ofNat 48 n).getLsbD 7 = true ∧
    (presenting (.cmd (BitVec.ofNat 48 n)) held).pending = [.cmd (BitVec.ofNat 48 n)] ∧
    (((BitVec.ofNat 48 n).extractLsb' 0 6).toNat ≤ 0x11 ∨
      (0x20 ≤ ((BitVec.ofNat 48 n).extractLsb' 0 6).toNat ∧
        ((BitVec.ofNat 48 n).extractLsb' 0 6).toNat ≤ 0x2C)) := by
  decide

/-- A step on a reserved opcode and one on a word with bit 7 set (P4, steps 2 and 3). -/
theorem test_error_steps : (stepped (presenting (.cmd 0x3F#48) State.reset)).out =
      [.cmd ⟨.unrecognized 0x3F#6, false, false⟩ []] ∧
    (stepped (presenting (.cmd 0x81#48) State.reset)).out = [.cmd ⟨.reserved 7 7, false, false⟩ []] := by decide

/-- The rows of every statement about a command's words: each `OP` has words that match (tests above) and words
that do not. -/
theorem test_witness_row_mismatch : ∀ op ∈ List.range 18 ++ List.range' 0x20 13,
    decode (BitVec.ofNat 48 (0x80 + op)) = .error (.reserved 7 7) := by decide

/-- Each branch of the decoding order, one word each. -/
theorem test_witness_check_order : formatOf 0x12#6 = none ∧ formatOf 0x01#6 = some .n ∧ formatOf 0x20#6 = some .s ∧
    formatOf 0x08#6 = some .b1 ∧ formatOf 0x09#6 = some .b3 ∧ formatOf 0x0C#6 = some .d ∧
    decode 0x000000010020#48 = .error (.reserved 47 16) ∧ decode 0x000001000008#48 = .error (.reserved 47 24) ∧
    decode 0x010000000009#48 = .error (.reserved 47 40) ∧ decode 0x01000000000C#48 = .ok (.delay noSel 0x01000000) := by
  decide

theorem test_witness_step_runs_decoded : (presenting (.cmd 0x05#48) State.reset).pending = [.cmd 0x05#48] ∧
    decode 0x05#48 = .ok (.hold noSel) := by decide

/-- A step with nothing presented, one that reports and one that does not. -/
theorem test_witness_step_takes_one : stepped held = held ∧
    (stepped (presenting (.cmd 0x01#48) held)).out = [.cmd ⟨.ok, true, false⟩ []] ∧
    (stepped (presenting .reset held)).out = [] := by decide

theorem test_witness_error_step : step (presenting (.cmd 0x280008#48) held) =
      .next (stepped (presenting (.cmd 0x280008#48) held)) ∧
    (stepped (presenting (.cmd 0x280008#48) held)).out = [.cmd ⟨.range 40, false, false⟩ []] := ⟨rfl, by decide⟩

/-- A report with `changed = 0` and one with `changed = 1`. -/
theorem test_witness_changed : exec (.state noSel) held = .next (after (.state noSel) held) ∧
    (after (.state noSel) held).out = [.cmd ⟨.ok, false, false⟩ [.readout (image held)]] ∧
    exec (.off noSel) held = .next (after (.off noSel) held) ∧
    (after (.off noSel) held).out = [.cmd ⟨.ok, true, false⟩ []] := ⟨rfl, by decide, rfl, by decide⟩

/-- A rendered report; `test_witness_changed` has one that is not. -/
theorem test_witness_rendered : exec (.on noSel) State.reset = .next (after (.on noSel) State.reset) ∧
    (after (.on noSel) State.reset).out =
      [.cmd ⟨.ok, true, true⟩ (render ((State.reset.setOn true).setHold false)).2] := ⟨rfl, rfl⟩

/-- Each field differs after some command of its row; `test_witness_dcache_writer` has the last field. -/
theorem test_witness_field_writers : (after (.right noSel) held).ltr ≠ held.ltr ∧
    (after (.off noSel) held).on ≠ held.on ∧ (after (.hold noSel) State.reset).hold ≠ State.reset.hold ∧
    (after (.binary noSel 1) held).bin ≠ held.bin ∧ (after (.binary noSel 1) held).bmask ≠ held.bmask ∧
    (after (.rotin noSel) (heldMask 0x81)).bmask ≠ (heldMask 0x81).bmask ∧
    (after (.bright noSel 3) held).px ≠ held.px ∧ (after (.rotin noSel) heldEight).px ≠ heldEight.px := by decide

/-- `dcache` after a render from reset. -/
theorem test_witness_dcache_writer :
    (after (.on noSel) State.reset).dcache = (render ((State.reset.setOn true).setHold false)).1 := rfl

/-- Two commands of format N, and two of format D, that differ only in `SP` and `SEL`. -/
theorem test_witness_selection_ignored : (Instr.clear ⟨true, 5⟩).format = .n ∧
    (Instr.clear ⟨true, 5⟩).opcode = (Instr.clear noSel).opcode ∧
    (Instr.clear ⟨true, 5⟩).operandBytes = (Instr.clear noSel).operandBytes ∧
    (Instr.delay ⟨true, 5⟩ 9).format = .d ∧
    (Instr.delay ⟨true, 5⟩ 9).operandBytes = (Instr.delay noSel 9).operandBytes := by decide

/-- The serializer's invariant before the first render and after one, each with a step. -/
theorem test_witness_pin_invariant : State.reset.PinInv ∧
    ((held.setDcache .l0).setPins ⟨.low, .low⟩).PinInv ∧
    step (presenting (.cmd 0x01#48) State.reset) = .next (stepped (presenting (.cmd 0x01#48) State.reset)) := by
  refine ⟨by decide, by decide, rfl⟩

/-- Reserved brightness bits zero, and a command presented. -/
theorem test_witness_reserved_brightness : (∀ i : Fin 8, heldEight.px[i].br.toNat < 32) ∧
    (presenting (.cmd 0x01#48) heldEight).pending.head? = some (.cmd 0x01#48) := by decide

/-- Two states that differ in the pins and the reports only. -/
theorem test_witness_outputs : SameBlock held ((held.setPins ⟨.high, .low⟩).setOut [.load ⟨.ok, true⟩]) :=
  ⟨rfl, rfl, rfl, rfl, rfl, rfl, rfl⟩

theorem test_witness_delay_word : decode 0x000001F4000C#48 = .ok (.delay noSel 500) := by decide

/-- A rotation in each mode: `bin = 0` and `bin = 1`. -/
theorem test_witness_rotated : heldEight.bin = false ∧ (heldMask 0x81).bin = true := by decide

theorem test_witness_idempotent : (Instr.binary noSel 1).opcode.toNat ∉ [0x0D, 0x0E, 0x0F, 0x10] ∧
    exec (.binary noSel 1) held = .next (after (.binary noSel 1) held) := ⟨by decide, rfl⟩

theorem test_witness_load_reset : (presenting (.loadImage loadedImage true) held).pending = [.loadImage loadedImage true] ∧
    (presenting (.loadImage loadedImage false) held).pending = [.loadImage loadedImage false] ∧
    (presenting .reset held).pending = [.reset] := by decide

/-- The bounds of both ranges: 31 and 32; 2^32 - 1 and 2^32. -/
theorem test_witness_range_checked : parseValue ['3', '1'] 10 = some 31 ∧ parseValue ['3', '2'] 10 = some 32 ∧
    parseValue ['4', '2', '9', '4', '9', '6', '7', '2', '9', '5'] 10 = some 4294967295 ∧
    parseValue ['4', '2', '9', '4', '9', '6', '7', '2', '9', '6'] 10 = some 4294967296 := by decide

/-- A command with `changed = 1` and one with `changed = 0`, as transcribed words of a run. -/
theorem test_witness_boot_run :
    transcribe [['h', 'o', 'l', 'd']] = .word 0x05#48 ∧ transcribe [['s', 't', 'a', 't', 'e']] = .word 0x11#48 ∧
    ((runInvocation (some (saveFile held)) [['h', 'o', 'l', 'd']] State.reset).map fun p => p.1.out.getLast?) =
      some (some (.cmd ⟨.ok, true, false⟩ [])) ∧
    ((runInvocation (some (saveFile held)) [['s', 't', 'a', 't', 'e']] State.reset).map fun p => p.1.out.getLast?) =
      some (some (.cmd ⟨.ok, false, false⟩ [.readout (image held)])) := by decide

end Sys2Proof.Tests
end

section
/-! PROOFS. `init_defaults()` leaves the default model, and the reset state is one it leaves unchanged. -/

namespace Sys2Proof.Proofs

open Sys2Proof.Machine Sys2Proof.Claims

/-- R31: after `clear_pixels()` every pixel has brightness 7 and no colour. -/
theorem clearPixels_px_getElem (s : State) (i : Fin 8) : (clearPixels s).px[i] = ⟨7, 0, 0, 0⟩ := by
  rw [clearPixels_px]
  exact Vector.getElem_replicate i.isLt

/-- R32, from any state. -/
theorem defaultModel_initDefaults (s : State) : DefaultModel (initDefaults s) :=
  ⟨initDefaults_ltr s, initDefaults_on s, initDefaults_hold s, initDefaults_bin s, initDefaults_bmask s,
    clearPixels_px_getElem _⟩

theorem initDefaults_reset : initDefaults State.reset = State.reset := rfl

theorem defaultModel_reset : DefaultModel State.reset :=
  initDefaults_reset ▸ defaultModel_initDefaults State.reset

/-- Settles O56: the model fields are the defaults, and R29's table gives the cache and the pins directly. -/
theorem resetValues : Obligations.ResetValues :=
  ⟨defaultModel_reset, rfl, rfl⟩

end Sys2Proof.Proofs
end

section
/-! PROOFS. The bytes of a command word and its `MS` by bit position: each byte, the word put together from
six bytes, and what a decoded `DELAY` carries. -/

namespace Sys2Proof.Proofs

/-- Bit `k` of byte `j` stands at bit `8j+k` of the word. -/
theorem wordByte_getLsbD (w : CmdWord) (j : Fin 6) {k : Nat} (hk : k < 8) :
    (wordByte w j).getLsbD k = w.getLsbD (8 * j.val + k) := by
  simp [wordByte, hk]

/-- Bit `8j+k` of the word put together from six bytes is bit `k` of byte `j`. -/
theorem wordOfBytes_getLsbD (bs : Vector Byte 6) (j : Fin 6) {k : Nat} (hk : k < 8) :
    (wordOfBytes bs).getLsbD (8 * j.val + k) = bs[j].getLsbD k := by
  simp only [wordOfBytes, BitVec.getLsbD_append]
  fin_cases j <;> grind

/-- Cutting a word into bytes and putting them together gives the word back. -/
theorem wordOfBytes_wordByte (w : CmdWord) : wordOfBytes (Vector.ofFn (wordByte w)) = w := by
  apply BitVec.eq_of_getLsbD_eq
  intro i hi
  let j : Fin 6 := ⟨i / 8, by omega⟩
  have hk : i % 8 < 8 := Nat.mod_lt i (by decide)
  calc (wordOfBytes (Vector.ofFn (wordByte w))).getLsbD i
      = (wordOfBytes (Vector.ofFn (wordByte w))).getLsbD (8 * j.val + i % 8) := by rw [Nat.div_add_mod]
    _ = (wordByte w j).getLsbD (i % 8) := by rw [wordOfBytes_getLsbD _ j hk]; simp
    _ = w.getLsbD (8 * j.val + i % 8) := wordByte_getLsbD w j hk
    _ = w.getLsbD i := by rw [Nat.div_add_mod]

/-- `MS` is bits 47:16 of the word (R47). -/
theorem msOf_fieldsOf_getLsbD (w : CmdWord) {k : Nat} (hk : k < 32) :
    (msOf (fieldsOf w)).getLsbD k = w.getLsbD (16 + k) := by
  simp only [msOf, fieldsOf, BitVec.getLsbD_append, BitVec.getLsbD_extractLsb']
  grind

/-- A word that decodes gives the command its opcode stands for (R55). -/
theorem commandOf_of_decode {w : CmdWord} {i : Instr} (h : decode w = .ok i) :
    commandOf (fieldsOf w) = some i := by
  unfold decode decodeFields at h
  split at h
  next hc =>
    rw [hc]
    split at h
    · cases h
    · split at h
      · cases h
      · cases h; rfl
  next => cases h

/-- `DELAY` carries the word's `MS` (R54). -/
theorem eq_msOf_of_commandOf_delay {f : Fields} {m : SelField} {ms : BitVec 32}
    (h : commandOf f = some (.delay m ms)) : ms = msOf f := by
  unfold commandOf at h
  split at h <;> cases h
  rfl

/-- Settles O8: the byte laws bit by bit, and `MS` of a decoded `DELAY` is the field `MS` of its word. -/
theorem wordBytesLittleEndian : Obligations.WordBytesLittleEndian := by
  intro w
  refine ⟨wordOfBytes_wordByte w, fun j k => wordByte_getLsbD w j, fun m ms hdec k hk => ?_⟩
  rw [eq_msOf_of_commandOf_delay (commandOf_of_decode hdec)]
  exact msOf_fieldsOf_getLsbD w hk

end Sys2Proof.Proofs
end

section
/-! PROOFS. The decoder's chain of checks (30_encoding.md R50 to R52, R55): what each check answers, that a
command read from a word has the word's fields, and the step of a word that does not decode. -/

namespace Sys2Proof.Proofs

open Sys2Proof.Machine Sys2Proof.Claims

/-- R50: the opcodes without a format are those of the two reserved ranges. -/
theorem formatOf_eq_none_iff (op : BitVec 6) :
    formatOf op = none ↔ (0x12 ≤ op.toNat ∧ op.toNat ≤ 0x1F) ∨ 0x2D ≤ op.toNat := by
  revert op
  decide

/-- R49: the format of a command is the one its opcode has. -/
theorem formatOf_opcode (i : Instr) : formatOf i.opcode = some i.format := by
  cases i <;> rfl

/-- An opcode with a format has a command (R49). -/
theorem exists_commandOf {f : Fields} {fmt : Format} (h : formatOf f.op = some fmt) :
    ∃ i, commandOf f = some i := by
  rw [← Option.ne_none_iff_exists']
  intro hc
  unfold commandOf at hc
  split at hc <;> cases hc
  simp_all [formatOf]

/-- R49, R52: a command has the opcode and the selection fields it was read from. -/
theorem opcode_selField_of_commandOf {f : Fields} {i : Instr} (h : commandOf f = some i) :
    i.opcode = f.op ∧ i.selField = selFieldOf f := by
  unfold commandOf at h
  split at h <;> cases h
  all_goals exact ⟨BitVec.eq_of_toNat_eq (by simp [Instr.opcode, *]), rfl⟩

/-- R52, R54: with the must-be-zero field zero, a command's operand bytes are those it was read from. -/
theorem operandBytes_of_commandOf {f : Fields} {i : Instr} (h : commandOf f = some i)
    (hz : mustBeZeroFault i.format f = none) : i.operandBytes = ⟨f.a0, f.a1, f.a2, f.rsv1⟩ := by
  unfold commandOf at h
  split at h <;> cases h
  -- the bytes a format does not carry are its must-be-zero field; the bytes of `MS` are the operand bytes
  all_goals simp_all [mustBeZeroFault, Instr.format, Instr.operandBytes, msOf_eq_zero, msOf_extract]

/-- The must-be-zero field of formats N and S is bits 47:16 of the word (R48). -/
theorem msOf_fieldsOf (w : CmdWord) : msOf (fieldsOf w) = w.extractLsb' 16 32 := by
  apply BitVec.eq_of_getLsbD_eq
  intro k hk
  rw [msOf_fieldsOf_getLsbD w hk, BitVec.getLsbD_extractLsb', decide_eq_true hk, Bool.true_and]

/-- The must-be-zero field of format B1, `RSV1 A2 A1`, is bits 47:24 of the word (R48). -/
theorem reservedBytes_eq_zero_iff (w : CmdWord) :
    (fieldsOf w).rsv1 = 0#8 ∧ (fieldsOf w).a2 = 0#8 ∧ (fieldsOf w).a1 = 0#8 ↔
      w.extractLsb' 24 24 = 0#24 := by
  simp only [fieldsOf, ← BitVec.toNat_inj, BitVec.extractLsb'_toNat, Nat.shiftRight_eq_div_pow,
    BitVec.toNat_ofNat]
  omega

/-- R48, R52: the must-be-zero field of each format by its bits of the word. -/
theorem mustBeZeroFault_fieldsOf (fmt : Format) (w : CmdWord) :
    mustBeZeroFault fmt (fieldsOf w) =
      if (fmt = .n ∨ fmt = .s) ∧ w.extractLsb' 16 32 ≠ 0 then some (47, 16)
      else if fmt = .b1 ∧ w.extractLsb' 24 24 ≠ 0 then some (47, 24)
      else if fmt = .b3 ∧ w.extractLsb' 40 8 ≠ 0 then some (47, 40)
      else none := by
  cases fmt
  case n => simp [mustBeZeroFault, msOf_fieldsOf]
  case s => simp [mustBeZeroFault, msOf_fieldsOf]
  case b1 => simp [mustBeZeroFault, reservedBytes_eq_zero_iff]
  case b3 => simp [mustBeZeroFault, fieldsOf]
  case d => simp [mustBeZeroFault]

/-- R50, R55: the first check refuses an opcode without a format. -/
theorem decode_of_reserved_opcode {w : CmdWord} (h : formatOf (fieldsOf w).op = none) :
    decode w = .error (.unrecognized (fieldsOf w).op) := by
  simp [decode, decodeFields, h]

/-- R51, R55: the second check refuses bit 7. -/
theorem decode_of_bit_seven {w : CmdWord} {fmt : Format} (hf : formatOf (fieldsOf w).op = some fmt)
    (h7 : (fieldsOf w).rsv0 = true) : decode w = .error (.reserved 7 7) := by
  obtain ⟨i, hc⟩ := exists_commandOf hf
  simp [decode, decodeFields, hf, hc, h7]

/-- R52, R55: the third check refuses a must-be-zero field that is not zero. -/
theorem decode_of_mustBeZeroFault {w : CmdWord} {fmt : Format} {hi lo : Nat}
    (hf : formatOf (fieldsOf w).op = some fmt) (h7 : (fieldsOf w).rsv0 = false)
    (hz : mustBeZeroFault fmt (fieldsOf w) = some (hi, lo)) : decode w = .error (.reserved hi lo) := by
  obtain ⟨i, hc⟩ := exists_commandOf hf
  simp [decode, decodeFields, hf, hc, h7, hz]

/-- R55: a word that passes every check decodes to a command with the word's fields. -/
theorem decode_of_checks_pass {w : CmdWord} {fmt : Format} (hf : formatOf (fieldsOf w).op = some fmt)
    (h7 : (fieldsOf w).rsv0 = false) (hz : mustBeZeroFault fmt (fieldsOf w) = none) :
    ∃ i, decode w = .ok i ∧ i.format = fmt ∧ i.fields = fieldsOf w := by
  obtain ⟨i, hc⟩ := exists_commandOf hf
  obtain ⟨hop, hsel⟩ := opcode_selField_of_commandOf hc
  have hfmt : i.format = fmt := by simpa [← hop, formatOf_opcode] using hf
  have hbytes := operandBytes_of_commandOf hc (hfmt ▸ hz)
  refine ⟨i, by simp [decode, decodeFields, hf, hc, h7, hz], hfmt, ?_⟩
  simp [Instr.fields, hop, hsel, hbytes, selFieldOf, ← h7]

/-- Settles O6: the opcode has a format or not, then the checks of the word's bits in the order of R55. -/
theorem decodeCheckOrder : Obligations.DecodeCheckOrder := by
  rintro w op rfl
  cases hf : formatOf (w.extractLsb' 0 6) with
  | none => exact decode_of_reserved_opcode hf
  | some fmt =>
    have hz := mustBeZeroFault_fieldsOf fmt w
    dsimp only
    split
    next h7 => exact decode_of_bit_seven hf h7
    next h7 =>
      rw [Bool.not_eq_true] at h7
      split_ifs at hz ⊢
      · exact decode_of_mustBeZeroFault hf h7 hz
      · exact decode_of_mustBeZeroFault hf h7 hz
      · exact decode_of_mustBeZeroFault hf h7 hz
      · obtain ⟨i, hok, hfmt, hfields⟩ := decode_of_checks_pass hf h7 hz
        simp only [Instr.fields, fieldsOf, Fields.mk.injEq] at hfields
        obtain ⟨hop, hsp, -, hsel, h0, h1, h2, h3⟩ := hfields
        exact ⟨i, hok, hop, hfmt, by rw [← hsp, ← hsel], by rw [← h0, ← h1, ← h2, ← h3]⟩

/-- R87, R149: raising an error leaves the block as it is. -/
theorem endsInError_errorState (e : Err) (s : State) : EndsInError e s (errorState e s) :=
  ⟨⟨rfl, rfl, rfl, rfl, rfl, rfl, rfl⟩, rfl, rfl, rfl⟩

/-- R79, R87: the step of a word that does not decode ends with the decoder's error. -/
theorem step_of_decode_error {s : State} {w : CmdWord} {rest : List Transaction} {e : Err}
    (hp : s.pending = .cmd w :: rest) (hd : decode w = .error e) :
    ∃ t, step s = .next t ∧ EndsInError e (s.setPending rest) t := by
  refine ⟨errorState e (s.setPending rest), ?_, endsInError_errorState e _⟩
  rw [step, takeNext_cons hp, transact_cmd, command_error hd]

/-- Settles O4: a reserved opcode has no format, so the first check refuses the word. -/
theorem reservedOpcodeStep : Obligations.ReservedOpcodeStep := by
  intro s w rest hp hop
  have hnone : formatOf (fieldsOf w).op = none := (formatOf_eq_none_iff _).mpr hop
  exact step_of_decode_error hp (decode_of_reserved_opcode hnone)

/-- Settles O5: an assigned opcode has a format, so the second check is reached and refuses the word. -/
theorem reservedBitSevenStep : Obligations.ReservedBitSevenStep := by
  intro s w rest hp hop h7
  have hsome : formatOf (w.extractLsb' 0 6) ≠ none := by
    rw [Ne, formatOf_eq_none_iff]
    omega
  obtain ⟨fmt, hf⟩ := Option.ne_none_iff_exists'.mp hsome
  exact step_of_decode_error hp (decode_of_bit_seven hf h7)

end Sys2Proof.Proofs
end

section
/-! PROOFS. How a command ends (40_command_cycle.md R79, R84 to R87): `exec_ends` gives the three ends by
the predicates of the statements, and the report of each end is read off once. -/

namespace Sys2Proof.Proofs

open Sys2Proof.Machine Sys2Proof.Claims

/-- A step adds one report, so two descriptions of it agree. -/
theorem report_unique {s t : State} {st st' : CmdStatus} {es es' : List Event}
    (h : t.out = s.out ++ [.cmd st es]) (h' : t.out = s.out ++ [.cmd st' es']) :
    st = st' ∧ es = es' := by
  simpa [h] using h'

/-- The end frame is not empty and ends with a zero (R142). -/
theorem frameBits_nEnd_eq_concat (s : State) : ∃ xs, frameBits Config.nEnd s = xs ++ [false] := by
  have hend : List.replicate Config.nEnd false = List.replicate (Config.endFrameExtra + 35) false ++ [false] :=
    List.replicate_succ'
  rw [frameBits, hend, ← List.append_assoc]
  exact ⟨_, rfl⟩

/-- R146: a render leaves the cache at L0. -/
theorem render_fst (s : State) : (render s).1 = .l0 := by
  obtain ⟨xs, hxs⟩ := frameBits_nEnd_eq_concat s
  rw [render_eq, hxs, sendBits_fst_concat]
  rfl

/-- The frame is the same before and after the end of a step. -/
theorem frameBits_finish (n : Nat) (s : State) : frameBits n (finish s) = frameBits n s :=
  frameBits_congr n (finish_px s) (finish_on s) (finish_bin s) (finish_bmask s)

/-- R84, R85: what `finish` leaves, for a command that wrote model fields only. -/
theorem endsChanged_finish {s s1 : State} (hpend : s1.pending = s.pending)
    (hdcache : s1.dcache = s.dcache) (hpins : s1.pins = s.pins) (hout : s1.out = s.out) :
    EndsChanged s (finish s1) := by
  refine ⟨(finish_pending s1).trans hpend, ?_⟩
  rw [frameBits_finish, finish_hold, ← hdcache, ← hpins, ← hout, ← render_eq]
  split
  next hheld => exact finish_held hheld
  next hfree =>
    obtain ⟨hcache, hlevels, hreport⟩ := finish_rendered (Bool.eq_false_iff.mpr hfree)
    exact ⟨hcache.trans (render_fst s1), hlevels, hreport⟩

/-- The report of a command with `changed = 1` (R84, R85). -/
theorem report_of_endsChanged {s t : State} {st : CmdStatus} {es : List Event} (h : EndsChanged s t)
    (hout : t.out = s.out ++ [.cmd st es]) :
    st = ⟨.ok, true, !t.hold⟩ ∧
      es = if t.hold then [] else (sendBits s.dcache (frameBits Config.nEnd t)).2 := by
  obtain ⟨-, h⟩ := h
  split at h
  next hheld =>
    obtain ⟨-, -, hreport⟩ := h
    simpa [hheld] using report_unique hout hreport
  next hfree =>
    obtain ⟨-, -, hreport⟩ := h
    simpa [hfree] using report_unique hout hreport

/-- The report of a command with `changed = 0` (R84). -/
theorem report_of_endsUnchanged {ev es : List Event} {s t : State} {st : CmdStatus}
    (h : EndsUnchanged ev s t) (hout : t.out = s.out ++ [.cmd st es]) :
    st = ⟨.ok, false, false⟩ ∧ es = ev := by
  obtain ⟨-, -, -, hreport⟩ := h
  exact report_unique hout hreport

/-- The report of an error (R87). -/
theorem report_of_endsInError {e : Err} {s t : State} {st : CmdStatus} {es : List Event}
    (h : EndsInError e s t) (hout : t.out = s.out ++ [.cmd st es]) :
    st = ⟨e, false, false⟩ ∧ es = [] := by
  obtain ⟨-, -, -, hreport⟩ := h
  exact report_unique hout hreport

theorem clockValues_eq_nil {es : List Event} (h : ∀ v, .setClock v ∉ es) : clockValues es = [] := by
  rw [clockValues, List.filterMap_eq_nil_iff]
  intro e he
  cases e with
  | setClock v => exact absurd he (h v)
  | setData _ | delay _ | readout _ => rfl

theorem dataValues_eq_nil {es : List Event} (h : ∀ v, .setData v ∉ es) : dataValues es = [] := by
  rw [dataValues, List.filterMap_eq_nil_iff]
  intro e he
  cases e with
  | setData v => exact absurd he (h v)
  | setClock _ | delay _ | readout _ => rfl

/-- The three ends of a command: changed, quiet without a pin event, or a range error (R84, R85, R87). -/
theorem exec_ends {i : Instr} {s t : State} (h : exec i s = .next t) :
    (¬ Quiet i ∧ EndsChanged s t) ∨
    (Quiet i ∧ ∃ ev, EndsUnchanged ev s t ∧ clockValues ev = [] ∧ dataValues ev = []) ∨
    (∃ v, EndsInError (.range v) s t) := by
  rcases exec_shapes i s with ⟨s1, hs1, hpend, hdcache, hpins, hout, hloud, -⟩ |
    ⟨ev, hev, hdata, hclock, hpins, hquiet, -⟩ | ⟨m, a0, -, -, herr⟩
  · cases h.symm.trans hs1
    exact .inl ⟨hloud, endsChanged_finish hpend hdcache hpins hout⟩
  · cases h.symm.trans hev
    exact .inr (.inl ⟨hquiet, ev, ⟨⟨rfl, rfl, rfl, rfl, rfl, rfl, rfl⟩, hpins, rfl, rfl⟩,
      clockValues_eq_nil hclock, dataValues_eq_nil hdata⟩)
  · cases h.symm.trans herr
    exact .inr (.inr ⟨a0.toNat, endsInError_errorState _ s⟩)

/-- R87: a command whose report carries an error ended in that error. -/
theorem endsInError_of_exec {i : Instr} {s t : State} {st : CmdStatus} {es : List Event}
    (h : exec i s = .next t) (hout : t.out = s.out ++ [.cmd st es]) (herr : st.err ≠ .ok) :
    EndsInError st.err s t := by
  rcases exec_ends h with ⟨-, hends⟩ | ⟨-, ev, hends, -⟩ | ⟨v, hends⟩
  · obtain ⟨rfl, -⟩ := report_of_endsChanged hends hout
    exact absurd rfl herr
  · obtain ⟨rfl, -⟩ := report_of_endsUnchanged hends hout
    exact absurd rfl herr
  · obtain ⟨rfl, -⟩ := report_of_endsInError hends hout
    exact hends

/-- R87: the same for the step of a word, which can also end in a decode error. -/
theorem endsInError_of_command {w : CmdWord} {s t : State} {st : CmdStatus} {es : List Event}
    (h : command w s = .next t) (hout : t.out = s.out ++ [.cmd st es]) (herr : st.err ≠ .ok) :
    EndsInError st.err s t := by
  cases hd : decode w with
  | ok i => exact endsInError_of_exec (command_ok hd s ▸ h) hout herr
  | error e =>
    cases h.symm.trans (command_error hd s)
    have hends : EndsInError e s (errorState e s) := endsInError_errorState e s
    obtain ⟨rfl, -⟩ := report_of_endsInError hends hout
    exact hends

/-- Settles O12: the step runs the word, and the report of an error end has no changed bit and no events. -/
theorem errorStepChangesNothing : Obligations.ErrorStepChangesNothing := by
  intro s t w rest st es hp hstep hout herr
  rw [step, takeNext_cons hp, transact_cmd] at hstep
  have hends : EndsInError st.err (s.setPending rest) t := endsInError_of_command hstep hout herr
  obtain ⟨hst, hes⟩ := report_of_endsInError hends hout
  exact ⟨hends, congrArg CmdStatus.changed hst, congrArg CmdStatus.rendered hst, hes⟩

/-- Settles O14: of the three ends, only the quiet one reports `OK` without `changed`. -/
theorem changedUnlessQuiet : Obligations.ChangedUnlessQuiet := by
  intro i s t st es hexec hout hok
  rcases exec_ends hexec with ⟨hloud, hends⟩ | ⟨hquiet, ev, hends, -⟩ | ⟨v, hends⟩
  · obtain ⟨rfl, -⟩ := report_of_endsChanged hends hout
    exact iff_of_false Bool.true_eq_false_eq_False hloud
  · obtain ⟨rfl, -⟩ := report_of_endsUnchanged hends hout
    exact iff_of_true rfl hquiet
  · obtain ⟨rfl, -⟩ := report_of_endsInError hends hout
    cases hok

/-- Settles O15: a changed end renders by the holding flag it leaves; the other two ends send nothing. -/
theorem renderTrigger : Obligations.RenderTrigger := by
  intro i s t st es hexec hout
  rcases exec_ends hexec with ⟨-, hends⟩ | ⟨-, ev, hends, hclock, hdata⟩ | ⟨v, hends⟩
  · obtain ⟨rfl, rfl⟩ := report_of_endsChanged hends hout
    obtain ⟨-, hends⟩ := hends
    split at hends
    next hheld =>
      obtain ⟨hdcache, hpins, -⟩ := hends
      simp [hheld, hdcache, hpins, clockValues, dataValues]
    next hfree =>
      obtain ⟨hdcache, -, -⟩ := hends
      simp [hfree, hdcache]
  · obtain ⟨rfl, rfl⟩ := report_of_endsUnchanged hends hout
    obtain ⟨⟨-, -, -, -, -, -, hdcache⟩, hpins, -, -⟩ := hends
    exact ⟨rfl, nofun, fun _ => ⟨hclock, hdata, hdcache, hpins⟩⟩
  · obtain ⟨rfl, rfl⟩ := report_of_endsInError hends hout
    obtain ⟨⟨-, -, -, -, -, -, hdcache⟩, hpins, -, -⟩ := hends
    exact ⟨rfl, nofun, fun _ => ⟨rfl, rfl, hdcache, hpins⟩⟩

end Sys2Proof.Proofs
end

section
/-! PROOFS. The selection (40_command_cycle.md R80 to R82): the command with another selection, which
formats N and D do not see, and the direction transform. -/

namespace Sys2Proof.Proofs

open Sys2Proof.Machine Sys2Proof.Claims

/-- The fields of a command stand for the command itself (R49, R54). -/
theorem commandOf_fields (i : Instr) : commandOf i.fields = some i := by
  cases i
  case delay m ms => exact congrArg (some ∘ Instr.delay m) (msOf_bytes ms _ _ _ _)
  all_goals rfl

/-- The command with the opcode and operand bytes of `i` and the selection `m`. -/
def reselect (i : Instr) (m : SelField) : Option Instr :=
  commandOf { i.fields with sp := m.sp, sel := m.sel }

/-- Commands with the same opcode and operand bytes differ in the selection only. -/
theorem reselect_eq_some {i j : Instr} (hop : i.opcode = j.opcode)
    (hbytes : i.operandBytes = j.operandBytes) : reselect i j.selField = some j := by
  rw [← commandOf_fields j]
  simp only [reselect, Instr.fields, hop, hbytes]

/-- R82 for format N. -/
theorem exec_reselect_of_format_n {i j : Instr} {m : SelField} (hfmt : i.format = .n)
    (h : reselect i m = some j) (s : State) : exec j s = exec i s := by
  cases i <;> cases hfmt
  -- left are the commands of format N: each meaning is a function of the state alone
  all_goals
    cases h
    rfl

/-- R82 for format D: the bytes of `MS`, put together again, are `MS`. -/
theorem exec_reselect_of_format_d {i j : Instr} {m : SelField} (hfmt : i.format = .d)
    (h : reselect i m = some j) (s : State) : exec j s = exec i s := by
  cases i <;> cases hfmt
  case delay m' ms =>
    cases h
    rw [exec_delay, exec_delay]
    congr 4
    exact msOf_bytes ms _ _ _ _

/-- Settles O17: the second command is the first with another selection, which formats N and D ignore. -/
theorem selectionIgnored : Obligations.SelectionIgnored := by
  rintro i j s (hn | hd) hop hbytes
  · exact (exec_reselect_of_format_n hn (reselect_eq_some hop hbytes) s).symm
  · exact (exec_reselect_of_format_d hd (reselect_eq_some hop hbytes) s).symm

/-- R80: `Dir` is its own inverse. -/
theorem dir_dir (s : State) (m : Byte) : dir s (dir s m) = m := by
  unfold dir
  split
  · exact BitVec.reverse_reverse_eq
  · rfl

/-- R80: the mask of all pixels has no direction. -/
theorem dir_allOnes (s : State) : dir s 0xFF#8 = 0xFF#8 := by
  unfold dir
  split
  · decide
  · rfl

/-- R81: the bit of the selection mask says whether the pixel is selected. -/
theorem selection_getLsbD (s : State) (f : SelField) (i : Fin 8) :
    (selection s f).getLsbD i.val = selected s f i := by
  cases hsp : f.sp with
  | false => simp [selection_none s f hsp, selected, hsp]
  | true =>
    rw [selection_some s f hsp, dir_getLsbD, selected, hsp, Bool.not_true, Bool.false_or, internalBit]

/-- Settles O18: `Dir` bit by bit, then the selection read through it. -/
theorem directionTransform : Obligations.DirectionTransform := fun s m =>
  ⟨dir_getLsbD s m, dir_dir s m, dir_allOnes s, selection_some s ⟨true, m⟩ rfl, rfl, selection_getLsbD s⟩

end Sys2Proof.Proofs
end

section
/-! PROOFS. The state port: the image byte by byte as it is read (41_state_port.md R93), and what a step that
takes a `LOAD_IMAGE` does with a valid image (R94) and with an invalid one (R95). -/

namespace Sys2Proof.Proofs

open Sys2Proof.Machine Sys2Proof.Claims

/-- R27, R93: the flags by their weights; bits 7:4 are zero. -/
theorem flagsByte_toNat (s : State) : (flagsByte s).toNat = (if s.ltr then 1 else 0) +
    (if s.on then 2 else 0) + (if s.hold then 4 else 0) + (if s.bin then 8 else 0) := by
  unfold flagsByte
  generalize s.ltr = ltr, s.on = on, s.hold = hold, s.bin = bin
  revert ltr on hold bin
  decide

/-- R34, R93: byte `j` of pixel `i` stands at offset `2 + 4i + j`. -/
theorem imgRead_pixel (s : State) (i : Fin 8) {j k : Nat} (hj : j < 4) (hk : k = 2 + 4 * i.val + j) :
    imgRead s k = some (pixelByte s.px[i] j) := by
  have hrange : k < 34 := by omega
  have hflags : k ≠ 0 := by omega
  have hmask : k ≠ 1 := by omega
  have hpixel : (k - 2) / 4 = i.val := by omega
  have hbyte : (k - 2) % 4 = j := by omega
  simp only [imgRead, hrange, dif_pos, imageByte, hflags, hmask, if_false, hpixel, hbyte, Fin.getElem_fin]

/-- Settles O51: FLAGS by its weights, then the four bytes of a pixel in the order of R34. -/
theorem imageReadLayout : Obligations.ImageReadLayout := by
  intro s
  refine ⟨⟨flagsByte s, rfl, flagsByte_toNat s⟩, rfl, fun i => ⟨?br, ?blue, ?green, ?red⟩⟩
  case br => exact imgRead_pixel s i (j := 0) (by decide) (by omega)
  case blue => exact imgRead_pixel s i (j := 1) (by decide) (by omega)
  case green => exact imgRead_pixel s i (j := 2) (by decide) (by omega)
  case red => exact imgRead_pixel s i (j := 3) (by decide) (by omega)

/-- R78, R94, R95: the step that takes a `LOAD_IMAGE`. -/
theorem step_of_loadImage {s : State} {img : Image} {ok : Bool} {rest : List Transaction}
    (hp : s.pending = .loadImage img ok :: rest) :
    step s = .next (loadImage img ok (s.setPending rest)) := by
  rw [step, takeNext_cons hp, transact_loadImage]

/-- R94. -/
theorem loadImage_true (img : Image) (s : State) :
    loadImage img true s = (loadFields img s).report (.load ⟨.ok, false⟩) [] := rfl

/-- R95: the image is discarded. -/
theorem loadImage_false (img : Image) (s : State) :
    loadImage img false s = (initDefaults s).report (.load ⟨.ok, true⟩) [] := rfl

/-- Settles O52: the loaded fields, then a report that no event accompanies. -/
theorem loadValidImage : Obligations.LoadValidImage := by
  intro s img rest hp
  refine ⟨_, step_of_loadImage hp, ?_⟩
  rw [loadImage_true]
  exact ⟨rfl, rfl, rfl, rfl, rfl, imagePixels_getElem img, rfl, rfl, rfl, rfl⟩

/-- Settles O53: the defaults whatever the image, then a report that no event accompanies. -/
theorem loadInvalidImage : Obligations.LoadInvalidImage := by
  intro s img rest hp
  refine ⟨_, step_of_loadImage hp, ?_⟩
  rw [loadImage_false]
  exact ⟨defaultModel_initDefaults (s.setPending rest), rfl, rfl, rfl, rfl⟩

end Sys2Proof.Proofs
end

section
/-! PROOFS. The row of a command from its opcode's format and command (30_encoding.md R48, R49), and the
flag commands (42_flag_commands.md R100 to R106): each is its write of model fields followed by `finish`,
which keeps the model fields. -/

namespace Sys2Proof.Proofs

open Sys2Proof.Machine Sys2Proof.Claims

/-- R48, R49, R52: an opcode's row, once its format and its command are known. -/
theorem rowOf_of_format {op : BitVec 6} {command : CmdWord → Instr} (fmt : Format)
    (hfmt : formatOf op = some fmt)
    (hcommand : ∀ w, commandOf { fieldsOf w with op := op } = some (command w)) :
    RowOf op fmt.mask command := by
  rintro w rfl
  exact decode_of_match w hfmt (hcommand w)

/-- R133 to R142: the direction is not in the frame, before or after the end of a step. -/
theorem frameBits_finish_setLtr (n : Nat) (s : State) (v : Bool) :
    frameBits n (finish (s.setLtr v)) = frameBits n s :=
  calc frameBits n (finish (s.setLtr v))
      = frameBits n (s.setLtr v) := frameBits_finish n _
    _ = frameBits n s := frameBits_congr n rfl rfl rfl rfl

/-- Settles O24: only `on` is written, then the step ends. -/
theorem offResult : Obligations.OffResult := by
  refine ⟨rowOf_of_format .n rfl fun _ => rfl, fun m s => ⟨_, exec_off m s, ?_⟩⟩
  exact ⟨finish_on _, finish_hold _, finish_ltr _, finish_bin _, finish_bmask _, finish_px _,
    endsChanged_finish rfl rfl rfl rfl⟩

/-- Settles O25: only `on` and `hold` are written, then the step ends. -/
theorem onResult : Obligations.OnResult := by
  refine ⟨rowOf_of_format .n rfl fun _ => rfl, fun m s => ⟨_, exec_on m s, ?_⟩⟩
  exact ⟨finish_on _, finish_hold _, finish_ltr _, finish_bin _, finish_bmask _, finish_px _,
    endsChanged_finish rfl rfl rfl rfl⟩

/-- Settles O26: only `ltr` is written, which the frame does not read. -/
theorem leftResult : Obligations.LeftResult := by
  refine ⟨rowOf_of_format .n rfl fun _ => rfl, fun m s => ⟨_, exec_left m s, ?_⟩⟩
  exact ⟨finish_ltr _, finish_on _, finish_hold _, finish_bin _, finish_bmask _, finish_px _,
    endsChanged_finish rfl rfl rfl rfl, frameBits_finish_setLtr _ s true⟩

/-- Settles O27: only `ltr` is written, which the frame does not read. -/
theorem rightResult : Obligations.RightResult := by
  refine ⟨rowOf_of_format .n rfl fun _ => rfl, fun m s => ⟨_, exec_right m s, ?_⟩⟩
  exact ⟨finish_ltr _, finish_on _, finish_hold _, finish_bin _, finish_bmask _, finish_px _,
    endsChanged_finish rfl rfl rfl rfl, frameBits_finish_setLtr _ s false⟩

/-- Settles O28: only `hold` is written, and the step ends with the value it has then. -/
theorem holdResult : Obligations.HoldResult := by
  refine ⟨rowOf_of_format .n rfl fun _ => rfl, fun m s => ⟨_, exec_hold m s, ?_⟩⟩
  exact ⟨finish_hold _, finish_ltr _, finish_on _, finish_bin _, finish_bmask _, finish_px _,
    endsChanged_finish rfl rfl rfl rfl⟩

/-- Settles O29: only `hold` is written, and the step ends with the value it has then. -/
theorem showResult : Obligations.ShowResult := by
  refine ⟨rowOf_of_format .n rfl fun _ => rfl, fun m s => ⟨_, exec_showCmd m s, ?_⟩⟩
  exact ⟨finish_hold _, finish_ltr _, finish_on _, finish_bin _, finish_bmask _, finish_px _,
    endsChanged_finish rfl rfl rfl rfl⟩

/-- Settles O30: every model field but `ltr` is written; the pixels are those of `clear_pixels()`. -/
theorem clearResult : Obligations.ClearResult := by
  refine ⟨rowOf_of_format .n rfl fun _ => rfl, fun m s => ⟨_, exec_clear m s, ?_⟩⟩
  refine ⟨finish_ltr _, finish_on _, finish_hold _, finish_bin _, finish_bmask _, fun i => ?pixels,
    endsChanged_finish rfl rfl rfl rfl⟩
  case pixels =>
    rw [finish_px]
    exact clearPixels_px_getElem _ i

end Sys2Proof.Proofs
end

section
/-! PROOFS. The pixel commands (43_pixel_commands.md R107 to R122): each is one function of a pixel, run on
the selected pixels (40_command_cycle.md R83), followed by `finish`; `BRIGHT` first checks its operand. -/

namespace Sys2Proof.Proofs

open Sys2Proof.Machine Sys2Proof.Claims

/-- The result of a selection-masked write: `f` on every selected pixel, and the end of a command with
`changed = 1`; every other model field stays (R83, R85). -/
def WritesSelected (f : Pixel → Pixel) (m : SelField) (s t : State) : Prop :=
  (∀ i : Fin 8, t.px[i] = if selected s m i then f s.px[i] else s.px[i]) ∧
  SameFlags s t ∧ t.bmask = s.bmask ∧ EndsChanged s t

/-- R81, R83: a masked update changes the selected pixels. -/
theorem masked_selection_getElem (s : State) (m : SelField) (f : Pixel → Pixel) (i : Fin 8) :
    (masked (selection s m) f s.px)[i] = if selected s m i then f s.px[i] else s.px[i] := by
  rw [masked_getElem, selection_getLsbD]

/-- R83, R85: a masked update of the pixel array, then the end of the step. -/
theorem writesSelected_finish (f : Pixel → Pixel) (m : SelField) (s : State) :
    WritesSelected f m s (finish (s.setPx (masked (selection s m) f s.px))) := by
  refine ⟨fun i => ?pixels, ⟨finish_ltr _, finish_on _, finish_hold _, finish_bin _⟩, finish_bmask _,
    endsChanged_finish rfl rfl rfl rfl⟩
  case pixels =>
    rw [finish_px]
    exact masked_selection_getElem s m f i

/-- Settles O31: an operand in range is a masked write, and one above 31 is the error. -/
theorem brightResult : Obligations.BrightResult := by
  refine ⟨rowOf_of_format .b1 rfl fun _ => rfl, fun m a0 s => ?_⟩
  by_cases hrange : a0.toNat ≤ 31
  · refine ⟨_, exec_bright_of_le m a0 s hrange, ?_⟩
    rw [if_pos hrange]
    exact writesSelected_finish (withBrightness a0) m s
  · refine ⟨_, exec_bright_of_gt m a0 s (Nat.lt_of_not_le hrange), ?_⟩
    rw [if_neg hrange]
    exact endsInError_errorState _ s

/-- Settles O32: a masked write of the three channels. -/
theorem rgbResult : Obligations.RgbResult :=
  ⟨rowOf_of_format .b3 rfl fun _ => rfl, fun m r g b s =>
    ⟨_, exec_rgb m r g b s, writesSelected_finish (withColor r g b) m s⟩⟩

/-- R109 at `paint`, the rule that the 13 colour commands share. -/
theorem paint_paintsSelected (c : ColorName) (m : SelField) (s : State) :
    ∃ t, paint c m s = .next t ∧ PaintsSelected c m s t :=
  ⟨_, rfl, writesSelected_finish
    (withColor (Config.colorRgb c).r (Config.colorRgb c).g (Config.colorRgb c).b) m s⟩

/-- R49, R109: a command of format S that paints its colour, with its row and its result. -/
theorem rowOf_paintsSelected {op : BitVec 6} {cmd : SelField → Instr} {c : ColorName}
    (hfmt : formatOf op = some .s)
    (hcommand : ∀ f : Fields, commandOf { f with op := op } = some (cmd (selFieldOf f)))
    (hexec : ∀ m s, exec (cmd m) s = paint c m s) :
    RowOf op 0xFFFFFFFF00BF#48 (fun w => cmd (selOf w)) ∧
      ∀ (m : SelField) (s : State), ∃ t, exec (cmd m) s = .next t ∧ PaintsSelected c m s t := by
  refine ⟨rowOf_of_format .s hfmt fun w => hcommand (fieldsOf w), fun m s => ?_⟩
  rw [hexec m s]
  exact paint_paintsSelected c m s

/-- Settles O33: each of the eight opcodes has format S, and its command paints the colour of its name. -/
theorem colorResultRedToAqua : Obligations.ColorResultRedToAqua := by
  simp only [Obligations.ColorResultRedToAqua, colorsA, List.forall_mem_cons]
  exact ⟨rowOf_paintsSelected rfl (fun _ => rfl) exec_red,
    rowOf_paintsSelected rfl (fun _ => rfl) exec_coral,
    rowOf_paintsSelected rfl (fun _ => rfl) exec_orange,
    rowOf_paintsSelected rfl (fun _ => rfl) exec_gold,
    rowOf_paintsSelected rfl (fun _ => rfl) exec_yellow,
    rowOf_paintsSelected rfl (fun _ => rfl) exec_lime,
    rowOf_paintsSelected rfl (fun _ => rfl) exec_green,
    rowOf_paintsSelected rfl (fun _ => rfl) exec_aqua, nofun⟩

/-- Settles O34: each of the five opcodes has format S, and its command paints the colour of its name. -/
theorem colorResultBlueToBlack : Obligations.ColorResultBlueToBlack := by
  simp only [Obligations.ColorResultBlueToBlack, colorsB, List.forall_mem_cons]
  exact ⟨rowOf_paintsSelected rfl (fun _ => rfl) exec_blue,
    rowOf_paintsSelected rfl (fun _ => rfl) exec_purple,
    rowOf_paintsSelected rfl (fun _ => rfl) exec_pink,
    rowOf_paintsSelected rfl (fun _ => rfl) exec_white,
    rowOf_paintsSelected rfl (fun _ => rfl) exec_black, nofun⟩

end Sys2Proof.Proofs
end

section
/-! PROOFS. The binary overlay (44_binary_commands.md R123, R124): each command is its write of `bin` and, for
`BINARY`, of the overlay mask, followed by `finish`. -/

namespace Sys2Proof.Proofs

open Sys2Proof.Machine Sys2Proof.Claims

/-- Settles O35: only `bin` is written, then the step ends. -/
theorem binoffResult : Obligations.BinoffResult := by
  refine ⟨rowOf_of_format .n rfl fun _ => rfl, fun m s => ⟨_, exec_binoff m s, ?_⟩⟩
  exact ⟨finish_bin _, finish_bmask _, finish_ltr _, finish_on _, finish_hold _, finish_px _,
    endsChanged_finish rfl rfl rfl rfl⟩

/-- R124, per bit: the requested mask in internal order, with every pixel outside the selection lit. -/
theorem dir_or_not_selection_getLsbD (s : State) (m : SelField) (a0 : Byte) (i : Fin 8) :
    (dir s a0 ||| ~~~(selection s m)).getLsbD i.val =
      if selected s m i then internalBit s a0 i else true := by
  rw [BitVec.getLsbD_or, BitVec.getLsbD_not, dir_getLsbD, selection_getLsbD, internalBit]
  cases selected s m i <;> simp

/-- Settles O36: `bin` and the overlay mask are written from the state before, then the step ends. -/
theorem binaryResult : Obligations.BinaryResult := by
  refine ⟨rowOf_of_format .b1 rfl fun _ => rfl, fun m a0 s => ⟨_, exec_binary m a0 s, ?_⟩⟩
  refine ⟨finish_bin _, fun i => ?overlay, finish_ltr _, finish_on _, finish_hold _, finish_px _,
    endsChanged_finish rfl rfl rfl rfl⟩
  case overlay =>
    rw [finish_bmask]
    exact dir_or_not_selection_getLsbD s m a0 i

end Sys2Proof.Proofs
end

section
/-! PROOFS. The rotations (45_rotate_commands.md R126 to R129): where each record and each mask bit comes from
(R125), then the one shape the four commands share: the mask or the pixel array is written, by `bin`, and the
step ends. -/

namespace Sys2Proof.Proofs

open Sys2Proof.Machine Sys2Proof.Claims

theorem pixIn_getElem (p : Vector Pixel 8) (i : Fin 8) : (pixIn p)[i] = p[inSource i] := by
  fin_cases i <;> rfl

theorem pixOut_getElem (p : Vector Pixel 8) (i : Fin 8) : (pixOut p)[i] = p[outSource i] := by
  fin_cases i <;> rfl

theorem shiftUp_getElem (p : Vector Pixel 8) (i : Fin 8) : (shiftUp p)[i] = p[belowIndex i] := by
  fin_cases i <;> rfl

theorem shiftDown_getElem (p : Vector Pixel 8) (i : Fin 8) : (shiftDown p)[i] = p[aboveIndex i] := by
  fin_cases i <;> rfl

/-- R125: the bits of each half move as its records do under `PixIn`. -/
theorem maskIn_getLsbD (v : Byte) (i : Fin 8) :
    (maskIn v).getLsbD i.val = v.getLsbD (inSource i).val := by
  rw [maskIn, BitVec.getLsbD_append]
  fin_cases i <;> simp [rotl4, rotr4, hiNibble, loNibble, inSource]

/-- R125: the bits of each half move as its records do under `PixOut`. -/
theorem maskOut_getLsbD (v : Byte) (i : Fin 8) :
    (maskOut v).getLsbD i.val = v.getLsbD (outSource i).val := by
  rw [maskOut, BitVec.getLsbD_append]
  fin_cases i <;> simp [rotl4, rotr4, hiNibble, loNibble, outSource]

/-- R125: toward bit 7, each bit comes from the index below. -/
theorem rotl8_getLsbD (v : Byte) (i : Fin 8) :
    (rotl8 v).getLsbD i.val = v.getLsbD (belowIndex i).val := by
  fin_cases i <;> simp [rotl8, belowIndex]

/-- R125: toward bit 0, each bit comes from the index above. -/
theorem rotr8_getLsbD (v : Byte) (i : Fin 8) :
    (rotr8 v).getLsbD i.val = v.getLsbD (aboveIndex i).val := by
  fin_cases i <;> simp [rotr8, aboveIndex]

/-- The result of a rotation: the records or the mask's bits move, every other model field stays, and the
command ends with `changed = 1` (R85, R126 to R129). -/
def RotatesAndEnds (pix bit : Fin 8 → Fin 8) (s t : State) : Prop :=
  Rotated pix bit s t ∧ SameFlags s t ∧ EndsChanged s t

/-- R126 to R129 for any move of the records and of the bits: the mask is written while `bin = 1`, the pixel
array while `bin = 0`, then the step ends. -/
theorem rotatesAndEnds_finish {pix bit : Fin 8 → Fin 8} {s : State} {px : Vector Pixel 8} {mask : Byte}
    (hpx : ∀ i : Fin 8, px[i] = s.px[pix i])
    (hmask : ∀ i : Fin 8, mask.getLsbD i.val = s.bmask.getLsbD (bit i).val) :
    RotatesAndEnds pix bit s (finish (if s.bin then s.setBmask mask else s.setPx px)) := by
  cases hbin : s.bin with
  | true =>
    refine ⟨⟨fun h => ?_, fun _ => ⟨finish_px _, fun i => ?_⟩⟩,
      ⟨finish_ltr _, finish_on _, finish_hold _, finish_bin _⟩, endsChanged_finish rfl rfl rfl rfl⟩
    · cases hbin.symm.trans h
    · rw [finish_bmask]
      exact hmask i
  | false =>
    refine ⟨⟨fun _ => ⟨finish_bmask _, fun i => ?_⟩, fun h => ?_⟩,
      ⟨finish_ltr _, finish_on _, finish_hold _, finish_bin _⟩, endsChanged_finish rfl rfl rfl rfl⟩
    · rw [finish_px]
      exact hpx i
    · cases hbin.symm.trans h

/-- Of two moves of the records, the direction picks one. -/
theorem ite_getElem_of_moves {f g : Fin 8 → Fin 8} {p q r : Vector Pixel 8} (ltr : Bool)
    (hq : ∀ i : Fin 8, q[i] = p[f i]) (hr : ∀ i : Fin 8, r[i] = p[g i]) (i : Fin 8) :
    (if ltr then q else r)[i] = p[(if ltr then f else g) i] := by
  cases ltr with
  | true => exact hq i
  | false => exact hr i

/-- Settles O37: `PixIn` and `MaskIn` move records and bits from the same indices. -/
theorem rotinResult : Obligations.RotinResult :=
  ⟨rowOf_of_format .n rfl fun _ => rfl, fun m s =>
    ⟨_, exec_rotin m s, rotatesAndEnds_finish (pixIn_getElem s.px) (maskIn_getLsbD s.bmask)⟩⟩

/-- Settles O38: `PixOut` and `MaskOut` move records and bits from the same indices. -/
theorem rotoutResult : Obligations.RotoutResult :=
  ⟨rowOf_of_format .n rfl fun _ => rfl, fun m s =>
    ⟨_, exec_rotout m s, rotatesAndEnds_finish (pixOut_getElem s.px) (maskOut_getLsbD s.bmask)⟩⟩

/-- Settles O39: the shift of the records turns with `ltr`, and that of the mask does not. -/
theorem rotleftResult : Obligations.RotleftResult := by
  refine ⟨rowOf_of_format .n rfl fun _ => rfl, fun m s => ⟨_, exec_rotleft m s, ?_⟩⟩
  rw [← apply_ite s.setPx]
  exact rotatesAndEnds_finish
    (ite_getElem_of_moves s.ltr (shiftDown_getElem s.px) (shiftUp_getElem s.px)) (rotl8_getLsbD s.bmask)

/-- Settles O40: both shifts are opposite to those of ROTLEFT. -/
theorem rotrightResult : Obligations.RotrightResult := by
  refine ⟨rowOf_of_format .n rfl fun _ => rfl, fun m s => ⟨_, exec_rotright m s, ?_⟩⟩
  rw [← apply_ite s.setPx]
  exact rotatesAndEnds_finish
    (ite_getElem_of_moves s.ltr (shiftUp_getElem s.px) (shiftDown_getElem s.px)) (rotr8_getLsbD s.bmask)

end Sys2Proof.Proofs
end

section
/-! PROOFS. The commands that change nothing (46_misc_commands.md R130 to R132): each ends by `finishQuiet` on
the state before it, with events that no pin follows. -/

namespace Sys2Proof.Proofs

open Sys2Proof.Machine Sys2Proof.Claims

/-- R84: what a quiet end leaves, for events that ask nothing of the pins. -/
theorem endsUnchanged_finishQuiet {events : List Event} {s : State}
    (hpins : pinsAfter s.pins events = s.pins) : EndsUnchanged events s (finishQuiet false events s) :=
  ⟨⟨finishQuiet_px _ _ s, finishQuiet_ltr _ _ s, finishQuiet_on _ _ s, finishQuiet_hold _ _ s,
      finishQuiet_bin _ _ s, finishQuiet_bmask _ _ s, finishQuiet_dcache _ _ s⟩,
    (finishQuiet_pins _ _ s).trans hpins, finishQuiet_pending _ _ s, finishQuiet_out _ _ s⟩

/-- R33, R93: the image holds at each offset the byte that is read there. -/
theorem imgRead_eq_image_getElem (s : State) (k : Fin 34) : imgRead s k.val = some (image s)[k] := by
  rw [imgRead, dif_pos k.isLt, image, Fin.getElem_fin, Vector.getElem_ofFn]

/-- Settles O42: nothing is written, and the step ends with no event. -/
theorem nopResult : Obligations.NopResult :=
  ⟨rowOf_of_format .n rfl fun _ => rfl, fun m s => ⟨_, exec_nop m s, endsUnchanged_finishQuiet rfl⟩⟩

/-- Settles O43: format D has no must-be-zero field, its `MS` is bits 47:16, and a delay moves no pin. -/
theorem delayResult : Obligations.DelayResult := by
  refine ⟨rowOf_of_format .d rfl fun w => ?row, fun m ms s =>
    ⟨_, exec_delay m ms s, endsUnchanged_finishQuiet rfl⟩⟩
  case row =>
    rw [← msOf_fieldsOf]
    rfl

/-- Settles O44: the event is the image of the state before, and a readout moves no pin. -/
theorem stateResult : Obligations.StateResult :=
  ⟨rowOf_of_format .n rfl fun _ => rfl, fun m s =>
    ⟨_, image s, exec_state m s, endsUnchanged_finishQuiet rfl, imgRead_eq_image_getElem s⟩⟩

end Sys2Proof.Proofs
end

section
/-! PROOFS. The bits of a render by position (47_render.md R133 to R142): the control byte as a number, and the
bit sequence as two zero runs around a block of eight pixels of four bytes of eight bits. -/

namespace Sys2Proof.Proofs

open Sys2Proof.Machine Sys2Proof.Claims

/-- R134: a pixel is lit when the strip is on and the overlay, if any, has its bit set. -/
theorem lit_iff (s : State) (i : Fin 8) :
    lit s i = true ↔ s.on = true ∧ (s.bin = false ∨ s.bmask.getLsbD i.val = true) := by
  simp [lit]

/-- R136: a 5-bit brightness does not meet the three marker bits, so the OR is a sum. -/
theorem toNat_marker_or_setWidth (b : BitVec 5) : (0xE0#8 ||| b.setWidth 8).toNat = 0xE0 + b.toNat := by
  have hb : b.toNat < 2 ^ 5 := b.isLt
  calc (0xE0#8 ||| b.setWidth 8).toNat
      = 2 ^ 5 * 7 ||| b.toNat := by
        rw [BitVec.toNat_or, BitVec.toNat_setWidth, Nat.mod_eq_of_lt (by omega)]
        rfl
    _ = 2 ^ 5 * 7 + b.toNat := (Nat.two_pow_add_eq_or_of_lt hb 7).symm

/-- R136: the control byte as a number. -/
theorem ctrl_toNat (s : State) (i : Fin 8) : (ctrl s i).toNat = 0xE0 + (effBr s i).toNat :=
  toNat_marker_or_setWidth (effBr s i)

/-- R135: the effective brightness as a number. -/
theorem effBr_toNat (s : State) (i : Fin 8) :
    (effBr s i).toNat = if lit s i then s.px[i].br.toNat % 32 else 0 := by
  unfold effBr
  split
  · simp
  · rfl

/-- Settles O46: the marker plus the effective brightness, which is 0 for a pixel that is not lit. -/
theorem controlByteValue : Obligations.ControlByteValue := by
  intro s i
  rw [ctrl_toNat, effBr_toNat]
  simp only [← lit_iff]
  split <;> rfl

/-- Where every element expands to `c` entries, entry `c * i + k` is entry `k` of element `i`. -/
theorem getElem?_flatMap_of_length_eq {α β : Type} {f : α → List β} {c : Nat}
    (hlen : ∀ a, (f a).length = c) (l : List α) (i : Nat) {k : Nat} (hk : k < c) :
    (l.flatMap f)[c * i + k]? = l[i]?.bind fun a => (f a)[k]? := by
  induction l generalizing i with
  | nil => rfl
  | cons a l ih =>
    rw [List.flatMap_cons]
    cases i with
    | zero =>
      rw [List.getElem?_append_left (by rw [hlen]; omega), Nat.mul_zero, Nat.zero_add]
      rfl
    | succ i =>
      have hi : c * (i + 1) + k = c + (c * i + k) := by ring
      rw [List.getElem?_append_right (by rw [hlen]; omega), hlen, hi, Nat.add_sub_cancel_left, ih]
      rfl

/-- Where every element expands to `c` entries, the list expands to `c` times its length. -/
theorem length_flatMap_of_length_eq {α β : Type} {f : α → List β} {c : Nat}
    (hlen : ∀ a, (f a).length = c) (l : List α) : (l.flatMap f).length = c * l.length := by
  rw [List.length_flatMap, funext hlen, List.map_const', List.sum_replicate, smul_eq_mul, Nat.mul_comm]

/-- R140: a pixel frame is four bytes. -/
theorem pixelFrame_length (s : State) (i : Fin 8) : (pixelFrame s i).length = 4 := rfl

/-- R141: a byte is sent as eight bits. -/
theorem byteBits_length (v : Byte) : (byteBits v).length = 8 := rfl

/-- R140: a pixel frame holds the four bytes of the pixel in wire order. -/
theorem pixelFrame_getElem? (s : State) (i : Fin 8) (j : Fin 4) :
    (pixelFrame s i)[j.val]? = some (wireByte s i j) := by
  fin_cases j <;> rfl

/-- R141: a byte is sent most significant bit first. -/
theorem byteBits_getElem? (v : Byte) (k : Fin 8) : (byteBits v)[k.val]? = some (v.getLsbD (7 - k.val)) := by
  fin_cases k <;> rfl

/-- R139: the pixels are sent in physical order, four bytes each. -/
theorem frameBytes_getElem? (s : State) (i : Fin 8) (j : Fin 4) :
    (frameBytes s)[4 * i.val + j.val]? = some (wireByte s i j) := by
  rw [frameBytes, getElem?_flatMap_of_length_eq (pixelFrame_length s) _ _ j.isLt]
  simp [pixelFrame_getElem?]

/-- R139 to R141: the bits of the eight pixel frames. -/
def dataBits (s : State) : List Bool := (frameBytes s).flatMap byteBits

/-- R138, R142: the pixel data between the start frame and the end frame. -/
theorem frameBits_eq (n : Nat) (s : State) :
    frameBits n s = List.replicate 32 false ++ dataBits s ++ List.replicate n false := rfl

theorem dataBits_getElem? (s : State) (i : Fin 8) (j : Fin 4) (k : Fin 8) :
    (dataBits s)[32 * i.val + 8 * j.val + k.val]? = some ((wireByte s i j).getLsbD (7 - k.val)) := by
  have hpos : 32 * i.val + 8 * j.val + k.val = 8 * (4 * i.val + j.val) + k.val := by ring
  rw [hpos, dataBits, getElem?_flatMap_of_length_eq byteBits_length _ _ k.isLt, frameBytes_getElem?]
  exact byteBits_getElem? _ k

/-- R139 to R141: eight pixels of four bytes of eight bits. -/
theorem dataBits_length (s : State) : (dataBits s).length = 256 := by
  rw [dataBits, length_flatMap_of_length_eq byteBits_length, frameBytes,
    length_flatMap_of_length_eq (pixelFrame_length s), List.length_finRange]

/-- R133, R138: the first 32 bits and the pixel data are 288 bits. -/
theorem startFrame_dataBits_length (s : State) : (List.replicate 32 false ++ dataBits s).length = 288 := by
  rw [List.length_append, List.length_replicate, dataBits_length]

/-- R133, R142: the length of the sequence. -/
theorem frameBits_length (n : Nat) (s : State) : (frameBits n s).length = 288 + n := by
  rw [frameBits_eq, List.length_append, startFrame_dataBits_length, List.length_replicate]

/-- R138: the start frame is zeros. -/
theorem frameBits_getElem?_start (n : Nat) (s : State) {k : Nat} (hk : k < 32) :
    (frameBits n s)[k]? = some false := by
  rw [frameBits_eq, List.append_assoc, List.getElem?_append_left (by simpa using hk)]
  exact List.getElem?_replicate_of_lt hk

/-- The pixel data follows the 32 bits of the start frame. -/
theorem frameBits_getElem?_data (n : Nat) (s : State) {k : Nat} (hk : k < 256) :
    (frameBits n s)[32 + k]? = (dataBits s)[k]? := by
  rw [frameBits_eq, List.getElem?_append_left (by rw [startFrame_dataBits_length]; omega),
    List.getElem?_append_right (by simp), List.length_replicate, Nat.add_sub_cancel_left]

/-- R142: the end frame is zeros. -/
theorem frameBits_getElem?_end {n k : Nat} (s : State) (hk : k < n) :
    (frameBits n s)[288 + k]? = some false := by
  rw [frameBits_eq, List.getElem?_append_right (by rw [startFrame_dataBits_length]; omega),
    startFrame_dataBits_length, Nat.add_sub_cancel_left]
  exact List.getElem?_replicate_of_lt hk

/-- Settles O47: the length, then the start frame, the pixel data and the end frame by position. -/
theorem frameLayout : Obligations.FrameLayout := by
  refine fun n s => ⟨frameBits_length n s, fun _ => frameBits_getElem?_start n s, fun i j k => ?data,
    fun _ => frameBits_getElem?_end s⟩
  case data =>
    have hpos : 32 + 32 * i.val + 8 * j.val + k.val = 32 + (32 * i.val + 8 * j.val + k.val) := by omega
    rw [hpos, frameBits_getElem?_data n s (by omega)]
    exact dataBits_getElem? s i j k

end Sys2Proof.Proofs
end

section
/-! PROOFS. Encoding and decoding are inverse (30_encoding.md R47 to R55): a command's fields pass the decoder's
checks, a word that decodes has the fields of its command, and fields determine the command and the word. -/

namespace Sys2Proof.Proofs

/-- R48, R52: the must-be-zero field of a command's own format is zero. -/
theorem mustBeZeroFault_fields (i : Instr) : mustBeZeroFault i.format i.fields = none := by
  cases i
  case bright | rgb | binary | delay => rfl
  all_goals exact if_pos ((msOf_eq_zero _).mpr ⟨rfl, rfl, rfl, rfl⟩)

@[simp] theorem fieldsOf_encode (i : Instr) : fieldsOf (encode i) = i.fields := fieldsOf_pack i.fields

/-- R49, R54: a command is determined by its fields. -/
theorem fields_injective {i j : Instr} (h : i.fields = j.fields) : i = j := by
  have hcommand : some i = some j := by rw [← commandOf_fields i, h, commandOf_fields]
  exact Option.some.inj hcommand

/-- Settles O1: the fields of a command pass the three checks, so some command with the same fields is decoded. -/
theorem decodeOfEncode : Obligations.DecodeOfEncode := by
  intro i
  obtain ⟨j, hj, -, hfields⟩ := decode_of_checks_pass (w := encode i) (fmt := i.format)
    (by rw [fieldsOf_encode]; exact formatOf_opcode i) (by rw [fieldsOf_encode]; rfl)
    (by rw [fieldsOf_encode]; exact mustBeZeroFault_fields i)
  rw [hj, fields_injective (hfields.trans (fieldsOf_encode i))]

/-- R55: a word that decodes has the fields of the command it decodes to. -/
theorem fields_of_decode {w : CmdWord} {i : Instr} (h : decode w = .ok i) : i.fields = fieldsOf w := by
  cases hf : formatOf (fieldsOf w).op with
  | none => cases h.symm.trans (decode_of_reserved_opcode hf)
  | some fmt =>
    cases h7 : (fieldsOf w).rsv0 with
    | true => cases h.symm.trans (decode_of_bit_seven hf h7)
    | false =>
      cases hz : mustBeZeroFault fmt (fieldsOf w) with
      | some p => cases h.symm.trans (decode_of_mustBeZeroFault hf h7 hz)
      | none =>
        obtain ⟨j, hj, -, hfields⟩ := decode_of_checks_pass hf h7 hz
        cases h.symm.trans hj
        exact hfields

/-- Settles O2: the word and the encoding have the same fields. -/
theorem encodeOfDecode : Obligations.EncodeOfDecode :=
  fun _ i h => eq_of_fieldsOf_eq ((fieldsOf_encode i).trans (fields_of_decode h))

/-- R48: a word that matches an opcode under a format's mask has that opcode, since the mask keeps `OP`. -/
theorem op_of_match {w : CmdWord} {op : BitVec 6} {fmt : Format}
    (h : w &&& fmt.mask = op.setWidth 48) : (fieldsOf w).op = op := by
  have hmask : (fieldsOf fmt.mask).op = BitVec.allOnes 6 := by cases fmt <;> decide
  calc (fieldsOf w).op = (fieldsOf (w &&& fmt.mask)).op := by rw [fieldsOf_and, hmask, BitVec.and_allOnes]
    _ = op := by rw [h, ← Laws.Selects.opcode_word, fieldsOf_pack]

/-- Settles O3: matching is passing the checks, which the fields of a decoded command do. -/
theorem wordMatchesRow : Obligations.WordMatchesRow := by
  intro w op
  constructor
  · rintro ⟨i, hi, rfl⟩
    refine ⟨i.format, formatOf_opcode i, ?_⟩
    rw [show i.opcode = (fieldsOf w).op from congrArg Fields.op (fields_of_decode hi), matches_iff,
      ← fields_of_decode hi]
    exact ⟨rfl, mustBeZeroFault_fields i⟩
  · rintro ⟨fmt, hf, hmatch⟩
    obtain rfl := op_of_match hmatch
    obtain ⟨h7, hz⟩ := (matches_iff fmt w).mp hmatch
    obtain ⟨i, hi, -, hfields⟩ := decode_of_checks_pass hf h7 hz
    exact ⟨i, hi, congrArg Fields.op hfields⟩

/-- Settles O7: the eight words, each read by the decoder. -/
theorem sampleWordsDecode : Obligations.SampleWordsDecode := by
  unfold Obligations.SampleWordsDecode
  decide

end Sys2Proof.Proofs
end

section
/-! PROOFS. The step (40_command_cycle.md R43, R78, R79): every transaction is performed, one report at most is
added, and which commands report an error. -/

namespace Sys2Proof.Proofs

open Sys2Proof.Machine Sys2Proof.Claims

/-- R79: the step of a command word. -/
theorem step_of_cmd {s : State} {w : CmdWord} {rest : List Transaction} (hp : s.pending = .cmd w :: rest) :
    step s = command w (s.setPending rest) := by
  rw [step, takeNext_cons hp, transact_cmd]

/-- Settles O9: the step of the word is the command, and the command is the decoded one. -/
theorem stepRunsDecoded : Obligations.StepRunsDecoded := by
  intro s w rest i hp hdec
  rw [step_of_cmd hp, command_ok hdec]

/-- R78: the step that takes a reset. -/
theorem step_of_reset {s : State} {rest : List Transaction} (hp : s.pending = .reset :: rest) :
    step s = .next (doReset (s.setPending rest)) := by
  rw [step, takeNext_cons hp, transact_reset]

/-- R11, R56: every word has an outcome at the block. -/
theorem command_next (w : CmdWord) (s : State) : ∃ t, command w s = .next t := by
  cases hd : decode w with
  | ok i => exact command_ok hd s ▸ exec_next i s
  | error e => exact ⟨_, command_error hd s⟩

/-- Settles O10: the three transactions, each performed. -/
theorem everyStepCompletes : Obligations.EveryStepCompletes := by
  intro s
  cases hp : s.pending with
  | nil => exact ⟨s, takeNext_nil hp⟩
  | cons tr rest =>
    cases tr with
    | cmd w => exact step_of_cmd hp ▸ command_next w _
    | loadImage img ok => exact ⟨_, step_of_loadImage hp⟩
    | reset => exact ⟨_, step_of_reset hp⟩

/-- R79: a command word either runs the command it decodes to or ends in the decoder's error. -/
theorem command_cases {w : CmdWord} {s t : State} (h : command w s = .next t) :
    (∃ i, decode w = .ok i ∧ exec i s = .next t) ∨ ∃ e, decode w = .error e ∧ t = errorState e s := by
  cases hd : decode w with
  | ok i => exact .inl ⟨i, rfl, command_ok hd s ▸ h⟩
  | error e =>
    cases h.symm.trans (command_error hd s)
    exact .inr ⟨e, rfl, rfl⟩

/-- R43, R78: everything a step can do: nothing, or one of the three transactions. -/
theorem step_cases {s t : State} (h : step s = .next t) :
    (s.pending = [] ∧ t = s) ∨ ∃ rest,
      (∃ w, s.pending = .cmd w :: rest ∧ command w (s.setPending rest) = .next t) ∨
      (∃ img ok, s.pending = .loadImage img ok :: rest ∧ t = loadImage img ok (s.setPending rest)) ∨
      (s.pending = .reset :: rest ∧ t = doReset (s.setPending rest)) := by
  cases hp : s.pending with
  | nil =>
    cases h.symm.trans (takeNext_nil hp)
    exact .inl ⟨rfl, rfl⟩
  | cons tr rest =>
    refine .inr ⟨rest, ?_⟩
    cases tr with
    | cmd w => exact .inl ⟨w, rfl, step_of_cmd hp ▸ h⟩
    | loadImage img ok =>
      cases h.symm.trans (step_of_loadImage hp)
      exact .inr (.inl ⟨img, ok, rfl, rfl⟩)
    | reset =>
      cases h.symm.trans (step_of_reset hp)
      exact .inr (.inr ⟨rfl, rfl⟩)

/-- The report of a command with `changed = 1` (R84, R89). -/
theorem out_of_endsChanged {s t : State} (h : EndsChanged s t) :
    ∃ rd es, t.out = s.out ++ [.cmd ⟨.ok, true, rd⟩ es] := by
  obtain ⟨-, h⟩ := h
  split at h
  · obtain ⟨-, -, hout⟩ := h
    exact ⟨_, _, hout⟩
  · obtain ⟨-, -, hout⟩ := h
    exact ⟨_, _, hout⟩

/-- R88, R89: a command consumes no further transaction and gives one report. -/
theorem exec_pending_out {i : Instr} {s t : State} (h : exec i s = .next t) :
    t.pending = s.pending ∧ ∃ st es, t.out = s.out ++ [.cmd st es] := by
  rcases exec_ends h with ⟨-, hends⟩ | ⟨-, ev, ⟨-, -, hpend, hout⟩, -⟩ | ⟨v, -, -, hpend, hout⟩
  · obtain ⟨rd, es, hout⟩ := out_of_endsChanged hends
    exact ⟨hends.1, _, _, hout⟩
  · exact ⟨hpend, _, _, hout⟩
  · exact ⟨hpend, _, _, hout⟩

/-- The same for a command word, decoded or not (R87). -/
theorem command_pending_out {w : CmdWord} {s t : State} (h : command w s = .next t) :
    t.pending = s.pending ∧ ∃ st es, t.out = s.out ++ [.cmd st es] := by
  rcases command_cases h with ⟨i, -, hexec⟩ | ⟨e, -, rfl⟩
  · exact exec_pending_out hexec
  · exact ⟨rfl, _, _, rfl⟩

/-- R89, R94, R95: a load consumes nothing further and gives one report. -/
theorem loadImage_pending_out (img : Image) (ok : Bool) (s : State) :
    (loadImage img ok s).pending = s.pending ∧ ∃ st, (loadImage img ok s).out = s.out ++ [.load st] := by
  cases ok with
  | true => exact ⟨rfl, _, rfl⟩
  | false => exact ⟨rfl, _, rfl⟩

/-- Settles O11: idle, or the oldest transaction, which keeps the others and reports at most once. -/
theorem stepTakesOneTransaction : Obligations.StepTakesOneTransaction := by
  intro s t h
  rcases step_cases h with ⟨hp, rfl⟩ | ⟨rest, ⟨w, hp, hcmd⟩ | ⟨img, ok, hp, rfl⟩ | ⟨hp, rfl⟩⟩ <;> rw [hp]
  · exact ⟨rfl, fun _ => rfl, .inl rfl⟩
  · obtain ⟨hpend, st, es, hout⟩ := command_pending_out hcmd
    exact ⟨hpend, nofun, .inr ⟨_, hout⟩⟩
  · obtain ⟨hpend, st, hout⟩ := loadImage_pending_out img ok (s.setPending rest)
    exact ⟨hpend, nofun, .inr ⟨_, hout⟩⟩
  · exact ⟨rfl, nofun, .inl rfl⟩

/-- R107: a command is well formed exactly when it is not `BRIGHT` with an operand above 31. -/
theorem wf_iff (i : Instr) : i.wf = true ↔ ¬ ∃ m a0, i = .bright m a0 ∧ 31 < a0.toNat := by
  cases i
  case bright m a0 => simp [Instr.wf]
  all_goals simp [Instr.wf]

/-- Settles O13: of the three ends, only the range error of `BRIGHT` reports a code other than `OK`. -/
theorem onlyBrightRaises : Obligations.OnlyBrightRaises := by
  intro i s
  rw [← wf_iff]
  rcases exec_shapes i s with ⟨s1, hexec, hpend, hdcache, hpins, hout, -, hwf⟩ |
    ⟨ev, hexec, -, -, -, -, hwf⟩ | ⟨m, a0, rfl, hrange, hexec⟩
  · obtain ⟨rd, es, hreport⟩ := out_of_endsChanged (endsChanged_finish hpend hdcache hpins hout)
    exact ⟨_, _, es, hexec, hreport, iff_of_true rfl hwf⟩
  · exact ⟨_, _, ev, hexec, rfl, iff_of_true rfl hwf⟩
  · exact ⟨_, _, [], hexec, rfl, iff_of_false nofun (by simpa [Instr.wf] using hrange)⟩

/-- Settles O55: reset is performed on the state with the transaction taken, and keeps the rest presented. -/
theorem resetTransaction : Obligations.ResetTransaction := fun s rest hp =>
  ⟨doReset (s.setPending rest), step_of_reset hp, defaultModel_initDefaults (s.setPending rest), rfl, rfl,
    rfl, rfl⟩

end Sys2Proof.Proofs
end

section
/-! PROOFS. The serializer on the wire (47_render.md R143 to R147): what is sampled, how many events there are,
and where the pins stand afterwards, each by induction on the bits sent. -/

namespace Sys2Proof.Proofs

open Sys2Proof.Machine Sys2Proof.Claims

/-- After a bit the cache records the level of the bit. -/
@[simp] theorem pin_ofBit (x : Bool) : (DLevel.ofBit x).pin = PinLevel.ofBit x := by
  cases x <;> rfl

/-- R143, R147: the one rising edge of a bit finds the data pin at the bit's level. -/
theorem sampled_sendBit_append (d : DLevel) (x : Bool) (es : List Event) :
    sampled d.pin ((sendBit d x).2 ++ es) = PinLevel.ofBit x :: sampled (DLevel.ofBit x).pin es := by
  unfold sendBit
  split
  next hd => simp [hd, sampled]
  next => simp [sampled]

/-- Settles O48: bit by bit, each with the cache of the bit before. -/
theorem wireCarriesFrame : Obligations.WireCarriesFrame := by
  intro d bits
  induction bits generalizing d with
  | nil => rfl
  | cons x xs ih => rw [sendBits_cons_snd, sampled_sendBit_append, ih, List.map_cons]

theorem clockValues_append (es fs : List Event) : clockValues (es ++ fs) = clockValues es ++ clockValues fs :=
  List.filterMap_append

theorem dataValues_append (es fs : List Event) : dataValues (es ++ fs) = dataValues es ++ dataValues fs :=
  List.filterMap_append

/-- R143, R145: a bit is one clock pulse. -/
theorem clockValues_sendBit (d : DLevel) (x : Bool) : clockValues (sendBit d x).2 = [true, false] := by
  unfold sendBit
  split <;> rfl

/-- R143, R145: a bit is a data event exactly when it differs from the cache. -/
theorem dataValues_sendBit (d : DLevel) (x : Bool) :
    dataValues (sendBit d x).2 = if d = DLevel.ofBit x then [] else [x] := by
  unfold sendBit
  split <;> rfl

/-- R145: as many clock pulses as bits. -/
theorem clockValues_sendBits (d : DLevel) (bits : List Bool) :
    clockValues (sendBits d bits).2 = (List.replicate bits.length [true, false]).flatten := by
  induction bits generalizing d with
  | nil => rfl
  | cons x xs ih =>
    rw [sendBits_cons_snd, clockValues_append, clockValues_sendBit, ih, List.length_cons,
      List.replicate_succ, List.flatten_cons]

/-- R145: as many data events as changes of level. -/
theorem dataValues_sendBits_length (d : DLevel) (bits : List Bool) :
    (dataValues (sendBits d bits).2).length = toggles d bits := by
  induction bits generalizing d with
  | nil => rfl
  | cons x xs ih =>
    rw [sendBits_cons_snd, dataValues_append, dataValues_sendBit, List.length_append, ih, toggles]
    split <;> rfl

/-- R145: no data event repeats the level before it, the first one compared with the cache. -/
theorem dataValues_sendBits_isChain (d : DLevel) (bits : List Bool) :
    (dataValues (sendBits d bits).2).IsChain (· ≠ ·) ∧
      ∀ v ∈ (dataValues (sendBits d bits).2).head?, d ≠ DLevel.ofBit v := by
  induction bits generalizing d with
  | nil => exact ⟨.nil, nofun⟩
  | cons x xs ih =>
    obtain ⟨hchain, hhead⟩ := ih (DLevel.ofBit x)
    rw [sendBits_cons_snd, dataValues_append, dataValues_sendBit]
    split
    next hd => rw [hd]; exact ⟨hchain, hhead⟩
    next hd =>
      refine ⟨List.isChain_cons.mpr ⟨fun v hv hx => hhead v hv (congrArg DLevel.ofBit hx), hchain⟩, ?_⟩
      rintro v ⟨⟩
      exact hd

/-- Settles O49: the counts of the serializer on the 288 + N_END bits of a frame. -/
theorem renderEventCounts : Obligations.RenderEventCounts := by
  intro s
  rw [render_eq]
  refine ⟨?_, dataValues_sendBits_length _ _, (dataValues_sendBits_isChain _ _).1⟩
  rw [clockValues_sendBits, frameBits_length]

/-- R143: a bit leaves the clock low and the data pin at its level, wherever the cache agreed with the pin. -/
theorem pinsAfter_sendBit {p : Pins} {d : DLevel} (x : Bool) (h : p.data = d.pin) :
    pinsAfter p (sendBit d x).2 = ⟨PinLevel.ofBit x, .low⟩ := by
  unfold sendBit
  split
  next hd => rw [hd, pin_ofBit] at h; rw [← h]; rfl
  next => rfl

/-- R143, R144: the same for a sequence that is not empty, by its last bit. -/
theorem pinsAfter_sendBits_concat {p : Pins} {d : DLevel} (bits : List Bool) (x : Bool) (h : p.data = d.pin) :
    pinsAfter p (sendBits d (bits ++ [x])).2 = ⟨PinLevel.ofBit x, .low⟩ := by
  induction bits generalizing p d with
  | nil =>
    rw [List.nil_append, sendBits_cons_snd, sendBits_nil, List.append_nil]
    exact pinsAfter_sendBit x h
  | cons y ys ih =>
    rw [List.cons_append, sendBits_cons_snd, pinsAfter_append, pinsAfter_sendBit y h]
    exact ih (pin_ofBit y).symm

/-- A change from zero to one drives the data pin, wherever it stood: what follows finds pin and cache agreed. -/
theorem pinsAfter_sendBits_of_change (p : Pins) (d : DLevel) (xs ys : List Bool) (x : Bool) :
    pinsAfter p (sendBits d (xs ++ [false] ++ true :: (ys ++ [x]))).2 = ⟨PinLevel.ofBit x, .low⟩ := by
  have hrise : ∀ q, pinsAfter q (sendBit .l0 true).2 = ⟨.high, .low⟩ := fun _ => rfl
  rw [sendBits_append, sendBits_fst_concat, pinsAfter_append, sendBits_cons_snd, pinsAfter_append]
  simp only [DLevel.ofBit]
  rw [hrise]
  exact pinsAfter_sendBits_concat ys x rfl

/-- R136, R138, R142: a frame goes from its start frame to the marker bits of a control byte, and ends with a
zero. -/
theorem frameBits_change (s : State) :
    ∃ ys, frameBits Config.nEnd s = List.replicate 31 false ++ [false] ++ true :: (ys ++ [false]) := by
  have hmarker : (ctrl s 0).getLsbD 7 = true := by simp [ctrl]
  have hdata : ∃ ds, dataBits s = true :: ds := ⟨_, by rw [← hmarker]; rfl⟩
  have hstart : List.replicate 32 false = List.replicate 31 false ++ [false] := List.replicate_succ'
  have hend : List.replicate Config.nEnd false = List.replicate (Config.endFrameExtra + 35) false ++ [false] :=
    List.replicate_succ'
  obtain ⟨ds, hds⟩ := hdata
  refine ⟨ds ++ List.replicate (Config.endFrameExtra + 35) false, ?_⟩
  rw [frameBits_eq, hds, hstart, hend]
  simp only [List.append_assoc, List.cons_append]

/-- R143, R144: a frame ends with both pins low, wherever they and the cache stood: it drives the data pin once
at least, and its last bit is zero. -/
theorem pinsAfter_frame (p : Pins) (d : DLevel) (s : State) :
    pinsAfter p (sendBits d (frameBits Config.nEnd s)).2 = ⟨.low, .low⟩ := by
  obtain ⟨ys, hframe⟩ := frameBits_change s
  rw [hframe]
  exact pinsAfter_sendBits_of_change p d _ ys false

/-- Settles O50: a render sends a frame. -/
theorem renderEndsLow : Obligations.RenderEndsLow := by
  intro s p
  refine ⟨render_fst s, ?_⟩
  rw [render_eq]
  exact pinsAfter_frame p s.dcache s

end Sys2Proof.Proofs
end

section
/-! PROOFS. What a command depends on: the model fields, and for its render the cache; never the pins, the reports
or what is presented (10_state.md sections 4 and 5). -/

namespace Sys2Proof.Claims

open Sys2Proof.Machine

theorem SameModel.symm {s t : State} (h : SameModel s t) : SameModel t s := by
  obtain ⟨hpx, hltr, hon, hhold, hbin, hmask⟩ := h
  exact ⟨hpx.symm, hltr.symm, hon.symm, hhold.symm, hbin.symm, hmask.symm⟩

theorem SameModel.trans {s t u : State} (h : SameModel s t) (h' : SameModel t u) : SameModel s u := by
  obtain ⟨hpx, hltr, hon, hhold, hbin, hmask⟩ := h
  obtain ⟨hpx', hltr', hon', hhold', hbin', hmask'⟩ := h'
  exact ⟨hpx'.trans hpx, hltr'.trans hltr, hon'.trans hon, hhold'.trans hhold, hbin'.trans hbin,
    hmask'.trans hmask⟩

theorem SameBlock.sameModel {s t : State} (h : SameBlock s t) : SameModel s t := by
  obtain ⟨hpx, hltr, hon, hhold, hbin, hmask, -⟩ := h
  exact ⟨hpx, hltr, hon, hhold, hbin, hmask⟩

theorem SameBlock.dcache {s t : State} (h : SameBlock s t) : t.dcache = s.dcache := by
  obtain ⟨-, -, -, -, -, -, hdcache⟩ := h
  exact hdcache

theorem SameModel.sameBlock {s t : State} (h : SameModel s t) (hdcache : t.dcache = s.dcache) :
    SameBlock s t := by
  obtain ⟨hpx, hltr, hon, hhold, hbin, hmask⟩ := h
  exact ⟨hpx, hltr, hon, hhold, hbin, hmask, hdcache⟩

end Sys2Proof.Claims

namespace Sys2Proof.Proofs

open Sys2Proof.Machine Sys2Proof.Claims

/-- The fields of the state beside the six model fields. -/
structure Outside where
  dcache : DLevel
  pins : Pins
  pending : List Transaction
  out : List Report

/-- The fields of a state beside its model fields. -/
def outsideOf (s : State) : Outside := ⟨s.dcache, s.pins, s.pending, s.out⟩

/-- The model fields of a state with other fields beside them. -/
def placed (s : State) (o : Outside) : State :=
  (((s.setDcache o.dcache).setPins o.pins).setPending o.pending).setOut o.out

theorem sameModel_placed (s : State) (o o' : Outside) : SameModel (placed s o) (placed s o') :=
  ⟨rfl, rfl, rfl, rfl, rfl, rfl⟩

/-- A state with the model fields of `s` is `s` with other fields beside them. -/
theorem eq_placed_of_sameModel {s t : State} (h : SameModel s t) : t = placed s (outsideOf t) := by
  obtain ⟨hpx, hltr, hon, hhold, hbin, hmask⟩ := h
  exact State.ext_fields hpx hltr hon hhold hbin hmask rfl rfl rfl rfl

/-- R79, R85: the end of a changed step keeps the model fields. -/
theorem sameModel_finish (s : State) : SameModel s (finish s) :=
  ⟨finish_px s, finish_ltr s, finish_on s, finish_hold s, finish_bin s, finish_bmask s⟩

theorem sameModel_finishQuiet (changed : Bool) (ev : List Event) (s : State) :
    SameModel s (finishQuiet changed ev s) :=
  ⟨rfl, rfl, rfl, rfl, rfl, rfl⟩

theorem sameModel_errorState (e : Err) (s : State) : SameModel s (errorState e s) :=
  ⟨rfl, rfl, rfl, rfl, rfl, rfl⟩

/-- What a command leaves for the end of its step, what it says and what it raises are functions of the model
fields, whatever stands beside them. -/
def ReadsModelOnly (i : Instr) (s : State) : Prop :=
  (∃ s1, ∀ o, exec i (placed s o) = .next (finish (placed s1 o))) ∨
  (∃ ev, ∀ o, exec i (placed s o) = .next (finishQuiet false ev (placed s o))) ∨
  ∃ v, ∀ o, exec i (placed s o) = .next (errorState (.range v) (placed s o))

/-- An update that leaves the fields beside the model fields where they are, then the end of the step. -/
theorem readsModelOnly_of_update {i : Instr} {s : State} {update : State → State}
    (hexec : ∀ r, exec i r = .next (finish (update r)))
    (hupdate : ∀ o, update (placed s o) = placed (update s) o) : ReadsModelOnly i s :=
  .inl ⟨update s, fun o => by rw [hexec, hupdate]⟩

theorem readsModelOnly_of_quiet {i : Instr} {s : State} (ev : List Event)
    (hexec : ∀ o, exec i (placed s o) = .next (finishQuiet false ev (placed s o))) : ReadsModelOnly i s :=
  .inr (.inl ⟨ev, hexec⟩)

theorem readsModelOnly (i : Instr) (s : State) : ReadsModelOnly i s := by
  cases i
  case nop m => exact readsModelOnly_of_quiet [] fun _ => rfl
  case delay m ms => exact readsModelOnly_of_quiet [.delay ms] fun _ => rfl
  case state m => exact readsModelOnly_of_quiet [.readout (image s)] fun _ => rfl
  case bright m a0 =>
    by_cases h : a0.toNat ≤ 31
    · exact readsModelOnly_of_update (fun r => exec_bright_of_le m a0 r h) fun _ => rfl
    · exact .inr (.inr ⟨_, fun o => exec_bright_of_gt m a0 (placed s o) (Nat.lt_of_not_le h)⟩)
  case rotin m | rotout m =>
    refine readsModelOnly_of_update (fun r => rfl) fun o => ?_
    rw [apply_ite (placed · o)]
    rfl
  case rotleft m | rotright m =>
    refine readsModelOnly_of_update (fun r => rfl) fun o => ?_
    rw [apply_ite (placed · o), apply_ite (placed · o)]
    rfl
  all_goals exact readsModelOnly_of_update (fun r => rfl) fun _ => rfl

/-- A command ends in the same way on two states with the same model fields. -/
theorem exec_of_sameModel_cases {i : Instr} {s s' : State} (h : SameModel s s') :
    (∃ s1, exec i s = .next (finish (placed s1 (outsideOf s))) ∧
      exec i s' = .next (finish (placed s1 (outsideOf s')))) ∨
    (∃ ev, exec i s = .next (finishQuiet false ev s) ∧ exec i s' = .next (finishQuiet false ev s')) ∨
    ∃ v, exec i s = .next (errorState (.range v) s) ∧ exec i s' = .next (errorState (.range v) s') := by
  obtain ⟨o, rfl⟩ : ∃ o, s' = placed s o := ⟨_, eq_placed_of_sameModel h⟩
  rcases readsModelOnly i s with ⟨s1, hexec⟩ | ⟨ev, hexec⟩ | ⟨v, hexec⟩
  · exact .inl ⟨s1, hexec (outsideOf s), hexec o⟩
  · exact .inr (.inl ⟨ev, hexec (outsideOf s), hexec o⟩)
  · exact .inr (.inr ⟨v, hexec (outsideOf s), hexec o⟩)

/-- R133: a render is a function of the block. -/
theorem render_of_sameBlock {s s' : State} (h : SameBlock s s') : render s' = render s := by
  obtain ⟨hpx, -, hon, -, hbin, hmask, hdcache⟩ := h
  rw [render_eq, render_eq, hdcache, frameBits_congr _ hpx hon hbin hmask]

/-- R85: so are the block and the report at the end of a changed step. -/
theorem finish_of_sameBlock {s s' : State} (h : SameBlock s s') :
    SameBlock (finish s) (finish s') ∧
      ∃ r, (finish s).out = s.out ++ [r] ∧ (finish s').out = s'.out ++ [r] := by
  have hmodel : SameModel (finish s) (finish s') :=
    ((sameModel_finish s).symm.trans h.sameModel).trans (sameModel_finish s')
  have hhold : s'.hold = s.hold := by
    obtain ⟨-, -, -, hhold, -⟩ := h
    exact hhold
  cases hs : s.hold with
  | true =>
    obtain ⟨hdcache, -, hout⟩ := finish_held hs
    obtain ⟨hdcache', -, hout'⟩ := finish_held (hhold.trans hs)
    exact ⟨hmodel.sameBlock (by rw [hdcache, hdcache', h.dcache]), _, hout, hout'⟩
  | false =>
    obtain ⟨hdcache, -, hout⟩ := finish_rendered hs
    obtain ⟨hdcache', -, hout'⟩ := finish_rendered (hhold.trans hs)
    rw [render_of_sameBlock h] at hdcache' hout'
    exact ⟨hmodel.sameBlock (by rw [hdcache, hdcache']), _, hout, hout'⟩

/-- A command on two states with the same model fields leaves the same model fields. -/
theorem exec_of_sameModel {i : Instr} {s s' t : State} (h : SameModel s s') (hexec : exec i s = .next t) :
    ∃ t', exec i s' = .next t' ∧ SameModel t t' := by
  rcases exec_of_sameModel_cases (i := i) h with ⟨s1, hs, hs'⟩ | ⟨ev, hs, hs'⟩ | ⟨v, hs, hs'⟩ <;>
    cases hexec.symm.trans hs <;> refine ⟨_, hs', ?_⟩
  · exact ((sameModel_finish _).symm.trans (sameModel_placed s1 _ _)).trans (sameModel_finish _)
  · exact h
  · exact h

/-- A command on two equal blocks leaves equal blocks and gives one report. -/
theorem exec_of_sameBlock {i : Instr} {s s' t : State} (h : SameBlock s s') (hexec : exec i s = .next t) :
    ∃ t' r, exec i s' = .next t' ∧ SameBlock t t' ∧ t.out = s.out ++ [r] ∧ t'.out = s'.out ++ [r] := by
  rcases exec_of_sameModel_cases (i := i) h.sameModel with ⟨s1, hs, hs'⟩ | ⟨ev, hs, hs'⟩ | ⟨v, hs, hs'⟩ <;>
    cases hexec.symm.trans hs
  · have hblock : SameBlock (placed s1 (outsideOf s)) (placed s1 (outsideOf s')) :=
      (sameModel_placed s1 _ _).sameBlock h.dcache
    obtain ⟨hends, r, hout, hout'⟩ := finish_of_sameBlock hblock
    exact ⟨_, r, hs', hends, hout, hout'⟩
  · exact ⟨_, _, hs', h, rfl, rfl⟩
  · exact ⟨_, _, hs', h, rfl, rfl⟩

/-- The same for a command word, decoded or not. -/
theorem command_of_sameBlock {w : CmdWord} {s s' t : State} (h : SameBlock s s')
    (hcmd : command w s = .next t) :
    ∃ t' r, command w s' = .next t' ∧ SameBlock t t' ∧ t.out = s.out ++ [r] ∧ t'.out = s'.out ++ [r] := by
  rcases command_cases hcmd with ⟨i, hd, hexec⟩ | ⟨e, hd, rfl⟩
  · rw [command_ok hd]
    exact exec_of_sameBlock h hexec
  · exact ⟨_, _, command_error hd s', h, rfl, rfl⟩

/-- R94, R95: what a load leaves is a function of the image, of `ok` and of the cache. -/
theorem loadImage_of_sameBlock {s s' : State} (img : Image) (ok : Bool) (h : SameBlock s s') :
    SameBlock (loadImage img ok s) (loadImage img ok s') ∧
      ∃ r, (loadImage img ok s).out = s.out ++ [r] ∧ (loadImage img ok s').out = s'.out ++ [r] := by
  cases ok with
  | true => exact ⟨⟨rfl, rfl, rfl, rfl, rfl, rfl, h.dcache⟩, _, rfl, rfl⟩
  | false => exact ⟨⟨rfl, rfl, rfl, rfl, rfl, rfl, h.dcache⟩, _, rfl, rfl⟩

/-- Settles O23: each of the three transactions reads the block only. -/
theorem outputsNeverRead : Obligations.OutputsNeverRead := by
  intro s s' t h hpending hstep
  have hrest : ∀ rest, SameBlock (s.setPending rest) (s'.setPending rest) := fun _ => h
  rcases step_cases hstep with ⟨hp, rfl⟩ | ⟨rest, ⟨w, hp, hcmd⟩ | ⟨img, ok, hp, rfl⟩ | ⟨hp, rfl⟩⟩
  · exact ⟨s', [], takeNext_nil (hpending.trans hp), h, hpending, by simp⟩
  · obtain ⟨t', r, hcmd', hblock, hout, hout'⟩ := command_of_sameBlock (hrest rest) hcmd
    refine ⟨t', [r], step_of_cmd (hpending.trans hp) ▸ hcmd', hblock, ?_, hout, hout'⟩
    rw [(command_pending_out hcmd).1, (command_pending_out hcmd').1]
    rfl
  · obtain ⟨hblock, r, hout, hout'⟩ := loadImage_of_sameBlock img ok (hrest rest)
    refine ⟨_, [r], step_of_loadImage (hpending.trans hp), hblock, ?_, hout, hout'⟩
    rw [(loadImage_pending_out img ok _).1, (loadImage_pending_out img ok _).1]
    rfl
  · exact ⟨_, [], step_of_reset (hpending.trans hp), ⟨rfl, rfl, rfl, rfl, rfl, rfl, rfl⟩, rfl,
      (List.append_nil _).symm, (List.append_nil _).symm⟩

end Sys2Proof.Proofs
end

section
/-! PROOFS. The invariants of the block: the pins in step with the cache (10_state.md R22, R23; 47_render.md R144,
R146), and the reserved bits of the stored brightness (10_state.md R15). -/

namespace Sys2Proof.Proofs

open Sys2Proof.Machine Sys2Proof.Claims

/-- The serializer's invariant reads the cache and the pins only. -/
theorem pinInv_of_eq {s t : State} (hdcache : t.dcache = s.dcache) (hpins : t.pins = s.pins)
    (h : s.PinInv) : t.PinInv := by
  unfold State.PinInv
  rw [hdcache, hpins]
  exact h

/-- R144, R146: after a frame the cache and both pins are low. -/
theorem pinInv_of_low {t : State} (hdcache : t.dcache = .l0) (hpins : t.pins = ⟨.low, .low⟩) : t.PinInv := by
  unfold State.PinInv
  rw [hdcache, hpins]
  exact ⟨rfl, nofun, nofun, fun _ => rfl⟩

/-- Before the first frame the cache is unset and no pin has been driven. -/
theorem pinInv_of_unset {t : State} (hdcache : t.dcache = .unset) (hpins : t.pins = ⟨.unknown, .unknown⟩) :
    t.PinInv := by
  unfold State.PinInv
  rw [hdcache, hpins]
  exact ⟨rfl, nofun, fun _ => rfl, fun h => absurd rfl h⟩

/-- A changed command keeps cache and pins, or sends a whole frame (R85). -/
theorem pinInv_of_endsChanged {s t : State} (h : s.PinInv) (hends : EndsChanged s t) : t.PinInv := by
  obtain ⟨-, hends⟩ := hends
  split at hends
  next =>
    obtain ⟨hdcache, hpins, -⟩ := hends
    exact pinInv_of_eq hdcache hpins h
  next =>
    obtain ⟨hdcache, hpins, -⟩ := hends
    exact pinInv_of_low hdcache (hpins.trans (pinsAfter_frame _ _ t))

theorem pinInv_of_exec {i : Instr} {s t : State} (h : s.PinInv) (hexec : exec i s = .next t) : t.PinInv := by
  rcases exec_ends hexec with ⟨-, hends⟩ | ⟨-, ev, ⟨hblock, hpins, -⟩, -⟩ | ⟨v, hblock, hpins, -⟩
  · exact pinInv_of_endsChanged h hends
  · exact pinInv_of_eq hblock.dcache hpins h
  · exact pinInv_of_eq hblock.dcache hpins h

theorem pinInv_of_command {w : CmdWord} {s t : State} (h : s.PinInv) (hcmd : command w s = .next t) :
    t.PinInv := by
  rcases command_cases hcmd with ⟨i, -, hexec⟩ | ⟨e, -, rfl⟩
  · exact pinInv_of_exec h hexec
  · exact pinInv_of_eq rfl rfl h

/-- R94, R95: a load keeps cache and pins. -/
theorem loadImage_dcache_pins (img : Image) (ok : Bool) (s : State) :
    (loadImage img ok s).dcache = s.dcache ∧ (loadImage img ok s).pins = s.pins := by
  cases ok <;> exact ⟨rfl, rfl⟩

/-- Settles O20: the invariant by transaction; only a frame and a reset write the cache and the pins. -/
theorem pinInvariantKept : Obligations.PinInvariantKept := by
  intro s t h hstep
  rcases step_cases hstep with ⟨-, rfl⟩ | ⟨rest, ⟨w, -, hcmd⟩ | ⟨img, ok, -, rfl⟩ | ⟨-, rfl⟩⟩
  · exact h
  · exact pinInv_of_command (s := s.setPending rest) h hcmd
  · obtain ⟨hdcache, hpins⟩ := loadImage_dcache_pins img ok (s.setPending rest)
    exact pinInv_of_eq hdcache hpins h
  · exact pinInv_of_unset rfl rfl

/-- The reserved brightness bits are a matter of the pixels only. -/
theorem brightnessInRange_of_px {s t : State} (hpx : t.px = s.px) (h : BrightnessInRange s) :
    BrightnessInRange t := by
  unfold BrightnessInRange
  rw [hpx]
  exact h

/-- R16, R31: the default brightness is 7. -/
theorem brightnessInRange_of_default {t : State} (hpx : t.px = Vector.replicate 8 Pixel.default) :
    BrightnessInRange t := by
  intro i
  rw [hpx, Fin.getElem_fin, Vector.getElem_replicate]
  decide

/-- R83: a masked update by a function that keeps the range. -/
theorem brightnessInRange_masked {s t : State} {sel : Byte} {f : Pixel → Pixel}
    (hpx : t.px = masked sel f s.px) (hf : ∀ p, p.br.toNat < 32 → (f p).br.toNat < 32)
    (h : BrightnessInRange s) : BrightnessInRange t := by
  intro i
  rw [hpx, masked_getElem]
  split
  · exact hf _ (h i)
  · exact h i

/-- R126 to R129: each rotation moves the records and the mask's bits. -/
theorem rotatesAndEnds_of_exec {i : Instr} {s t : State} (hi : i.opcode.toNat ∈ [0x0D, 0x0E, 0x0F, 0x10])
    (hexec : exec i s = .next t) : ∃ pix bit, RotatesAndEnds pix bit s t := by
  have hresult : ∃ pix bit t', exec i s = .next t' ∧ RotatesAndEnds pix bit s t' := by
    cases i
    case rotin m => exact ⟨_, _, rotinResult.2 m s⟩
    case rotout m => exact ⟨_, _, rotoutResult.2 m s⟩
    case rotleft m => exact ⟨_, _, rotleftResult.2 m s⟩
    case rotright m => exact ⟨_, _, rotrightResult.2 m s⟩
    all_goals simp [Instr.opcode] at hi
  obtain ⟨pix, bit, t', ht', hends⟩ := hresult
  cases hexec.symm.trans ht'
  exact ⟨pix, bit, hends⟩

/-- R125: records that move carry their brightness with them. -/
theorem brightnessInRange_of_rotated {pix bit : Fin 8 → Fin 8} {s t : State} (hrot : Rotated pix bit s t)
    (h : BrightnessInRange s) : BrightnessInRange t := by
  obtain ⟨hrecords, hmask⟩ := hrot
  cases hbin : s.bin with
  | true => exact brightnessInRange_of_px (hmask hbin).1 h
  | false =>
    intro i
    rw [(hrecords hbin).2 i]
    exact h (pix i)

/-- R15, R107: no command writes a brightness above 31. -/
theorem brightnessInRange_of_exec {i : Instr} {s t : State} (h : BrightnessInRange s)
    (hexec : exec i s = .next t) : BrightnessInRange t := by
  cases i
  case bright m a0 =>
    by_cases ha : a0.toNat ≤ 31
    · cases hexec.symm.trans (exec_bright_of_le m a0 s ha)
      exact brightnessInRange_masked (finish_px _) (fun _ _ => Nat.lt_succ_of_le ha) h
    · cases hexec.symm.trans (exec_bright_of_gt m a0 s (Nat.lt_of_not_le ha))
      exact h
  case clear m =>
    cases hexec
    exact brightnessInRange_of_default (finish_px _)
  case rotin | rotout | rotleft | rotright =>
    obtain ⟨pix, bit, hrot, -⟩ := rotatesAndEnds_of_exec (by simp [Instr.opcode]) hexec
    exact brightnessInRange_of_rotated hrot h
  case nop | delay | state | off | on | left | right | hold | showCmd | binoff | binary =>
    cases hexec
    exact brightnessInRange_of_px (by simp) h
  -- left are RGB and the colours, which write the three channels
  all_goals
    cases hexec
    exact brightnessInRange_masked (finish_px _) (fun _ hp => hp) h

theorem brightnessInRange_of_command {w : CmdWord} {s t : State} (h : BrightnessInRange s)
    (hcmd : command w s = .next t) : BrightnessInRange t := by
  rcases command_cases hcmd with ⟨i, -, hexec⟩ | ⟨e, -, rfl⟩
  · exact brightnessInRange_of_exec h hexec
  · exact h

/-- Settles O21: commands keep the range, and reset and an invalid load write the default pixel. -/
theorem reservedBrightnessKept : Obligations.ReservedBrightnessKept := by
  intro s t h hload hstep
  rcases step_cases hstep with ⟨-, rfl⟩ | ⟨rest, ⟨w, -, hcmd⟩ | ⟨img, ok, hp, rfl⟩ | ⟨-, rfl⟩⟩
  · exact h
  · exact brightnessInRange_of_command (s := s.setPending rest) h hcmd
  · cases ok with
    | true => exact absurd (congrArg List.head? hp) (hload img)
    | false => exact brightnessInRange_of_default rfl
  · exact brightnessInRange_of_default rfl

/-- Settles O22: nothing is driven yet, and every pixel is the default one. -/
theorem invariantsAtReset : Obligations.InvariantsAtReset :=
  ⟨pinInv_of_unset rfl rfl, brightnessInRange_of_default rfl⟩

end Sys2Proof.Proofs
end

section
/-! PROOFS. Which command writes which field (10_state.md section 5), and commands performed twice (20_memory.md
section 3; 45_rotate_commands.md section 2): moves of the records compose, every other write is idempotent. -/

namespace Sys2Proof.Proofs

open Sys2Proof.Machine Sys2Proof.Claims

/-- R24: the rows of the access table for the six model fields. -/
def ModelWriters (i : Instr) (s t : State) : Prop :=
  (t.ltr ≠ s.ltr → i.opcode.toNat ∈ [0x03, 0x04]) ∧
  (t.on ≠ s.on → i.opcode.toNat ∈ [0x01, 0x02, 0x07]) ∧
  (t.hold ≠ s.hold → i.opcode.toNat ∈ [0x02, 0x05, 0x06, 0x07]) ∧
  (t.bin ≠ s.bin → i.opcode.toNat ∈ [0x07, 0x0A, 0x0B]) ∧
  (t.bmask ≠ s.bmask → i.opcode.toNat ∈ [0x07, 0x0B] ∨
    (s.bin = true ∧ i.opcode.toNat ∈ [0x0D, 0x0E, 0x0F, 0x10])) ∧
  (t.px ≠ s.px → i.opcode.toNat ∈ [0x07, 0x08, 0x09] ∨ i.opcode.toNat ∈ List.range' 0x20 13 ∨
    (s.bin = false ∧ i.opcode.toNat ∈ [0x0D, 0x0E, 0x0F, 0x10]))

/-- A command that writes the pixels only. -/
theorem modelWriters_of_setPx {i : Instr} {s : State} {px : Vector Pixel 8}
    (hi : i.opcode.toNat ∈ [0x08, 0x09] ∨ i.opcode.toNat ∈ List.range' 0x20 13) :
    ModelWriters i s (finish (s.setPx px)) := by
  simp only [ModelWriters, finish_ltr, finish_on, finish_hold, finish_bin, finish_bmask, finish_px]
  refine ⟨nofun, nofun, nofun, nofun, nofun, fun _ => ?_⟩
  rcases hi with hi | hi
  · exact .inl (List.mem_cons_of_mem _ hi)
  · exact .inr (.inl hi)

/-- R126 to R129: a rotation writes the mask while `bin = 1` and the pixels while `bin = 0`. -/
theorem modelWriters_of_rotated {i : Instr} {s t : State} {pix bit : Fin 8 → Fin 8}
    (hi : i.opcode.toNat ∈ [0x0D, 0x0E, 0x0F, 0x10]) (hrot : Rotated pix bit s t) (hflags : SameFlags s t) :
    ModelWriters i s t := by
  obtain ⟨hltr, hon, hhold, hbin⟩ := hflags
  obtain ⟨hrecords, hmask⟩ := hrot
  refine ⟨absurd hltr, absurd hon, absurd hhold, absurd hbin, fun h => ?_, fun h => ?_⟩
  · cases hs : s.bin with
    | false => exact absurd (hrecords hs).1 h
    | true => exact .inr ⟨rfl, hi⟩
  · cases hs : s.bin with
    | false => exact .inr (.inr ⟨rfl, hi⟩)
    | true => exact absurd (hmask hs).1 h

/-- R24, by command. -/
theorem modelWriters_of_exec {i : Instr} {s t : State} (hexec : exec i s = .next t) : ModelWriters i s t := by
  cases i
  case bright m a0 =>
    by_cases ha : a0.toNat ≤ 31
    · cases hexec.symm.trans (exec_bright_of_le m a0 s ha)
      exact modelWriters_of_setPx (.inl (by simp [Instr.opcode]))
    · cases hexec.symm.trans (exec_bright_of_gt m a0 s (Nat.lt_of_not_le ha))
      exact ⟨nofun, nofun, nofun, nofun, nofun, nofun⟩
  case rgb =>
    cases hexec
    exact modelWriters_of_setPx (.inl (by simp [Instr.opcode]))
  case rotin | rotout | rotleft | rotright =>
    obtain ⟨pix, bit, hrot, hflags, -⟩ := rotatesAndEnds_of_exec (by simp [Instr.opcode]) hexec
    exact modelWriters_of_rotated (by simp [Instr.opcode]) hrot hflags
  case nop | delay | state | off | on | left | right | hold | showCmd | binoff | binary | clear =>
    cases hexec
    simp [ModelWriters, Instr.opcode]
  -- left are the colours
  all_goals
    cases hexec
    exact modelWriters_of_setPx (.inr (by simp [Instr.opcode]))

/-- R24, R85: only a command that rendered writes the cache. -/
theorem dcache_writer_of_exec {i : Instr} {s t : State} (hexec : exec i s = .next t)
    (h : t.dcache ≠ s.dcache) :
    t.hold = false ∧ ∃ es : List Event, t.out = s.out ++ [.cmd ⟨.ok, true, true⟩ es] := by
  rcases exec_ends hexec with ⟨-, -, hends⟩ | ⟨-, ev, ⟨hblock, -⟩, -⟩ | ⟨v, hblock, -⟩
  · split at hends
    next =>
      obtain ⟨hdcache, -, -⟩ := hends
      exact absurd hdcache h
    next hfree =>
      obtain ⟨-, -, hout⟩ := hends
      exact ⟨Bool.eq_false_iff.mpr hfree, _, hout⟩
  · exact absurd hblock.dcache h
  · exact absurd hblock.dcache h

/-- Settles O16: the rows of the model fields, then the row of the cache. -/
theorem fieldWriters : Obligations.FieldWriters := by
  intro i s t hexec
  obtain ⟨hltr, hon, hhold, hbin, hbmask, hpx⟩ := modelWriters_of_exec hexec
  exact ⟨hltr, hon, hhold, hbin, hbmask, hpx, dcache_writer_of_exec hexec⟩

/-- Moves of the records and of the mask's bits, one after the other. -/
theorem rotated_trans {pix bit pix' bit' : Fin 8 → Fin 8} {s t u : State} (h : Rotated pix bit s t)
    (hflags : SameFlags s t) (h' : Rotated pix' bit' t u) : Rotated (pix ∘ pix') (bit ∘ bit') s u := by
  obtain ⟨-, -, -, hbin⟩ := hflags
  obtain ⟨hrecords, hmask⟩ := h
  obtain ⟨hrecords', hmask'⟩ := h'
  constructor
  · intro hs
    obtain ⟨hkept, hmoved⟩ := hrecords hs
    obtain ⟨hkept', hmoved'⟩ := hrecords' (hbin.trans hs)
    exact ⟨hkept'.trans hkept, fun i => (hmoved' i).trans (hmoved (pix' i))⟩
  · intro hs
    obtain ⟨hkept, hmoved⟩ := hmask hs
    obtain ⟨hkept', hmoved'⟩ := hmask' (hbin.trans hs)
    exact ⟨hkept'.trans hkept, fun i => (hmoved' i).trans (hmoved (bit' i))⟩

theorem sameFlags_trans {s t u : State} (h : SameFlags s t) (h' : SameFlags t u) : SameFlags s u := by
  obtain ⟨hltr, hon, hhold, hbin⟩ := h
  obtain ⟨hltr', hon', hhold', hbin'⟩ := h'
  exact ⟨hltr'.trans hltr, hon'.trans hon, hhold'.trans hhold, hbin'.trans hbin⟩

/-- Records and bits that all come from their own index are as before. -/
theorem sameModel_of_rotated_id {pix bit : Fin 8 → Fin 8} {s t : State} (h : Rotated pix bit s t)
    (hflags : SameFlags s t) (hpix : ∀ i, pix i = i) (hbit : ∀ i, bit i = i) : SameModel s t := by
  obtain ⟨hltr, hon, hhold, hbin⟩ := hflags
  have hfields : t.px = s.px ∧ t.bmask = s.bmask := by
    obtain ⟨hrecords, hmask⟩ := h
    cases hs : s.bin with
    | false =>
      obtain ⟨hkept, hmoved⟩ := hrecords hs
      refine ⟨Vector.ext fun i hi => ?_, hkept⟩
      simpa only [hpix, Fin.getElem_fin] using hmoved ⟨i, hi⟩
    | true =>
      obtain ⟨hkept, hmoved⟩ := hmask hs
      refine ⟨hkept, BitVec.eq_of_getLsbD_eq fun i hi => ?_⟩
      simpa only [hbit] using hmoved ⟨i, hi⟩
  exact ⟨hfields.1, hltr, hon, hhold, hbin, hfields.2⟩

/-- Two rotations undo each other when their moves do. -/
theorem sameModel_of_moves_undo {pix bit pix' bit' : Fin 8 → Fin 8} {s t u : State}
    (h : Rotated pix bit s t ∧ SameFlags s t) (h' : Rotated pix' bit' t u ∧ SameFlags t u)
    (hpix : ∀ i, pix (pix' i) = i) (hbit : ∀ i, bit (bit' i) = i) : SameModel s u := by
  obtain ⟨hrot, hflags⟩ := h
  obtain ⟨hrot', hflags'⟩ := h'
  exact sameModel_of_rotated_id (rotated_trans hrot hflags hrot') (sameFlags_trans hflags hflags') hpix hbit

/-- Four times `rotate in` brings every index back (45_rotate_commands.md section 2). -/
theorem inSource_four (i : Fin 8) : inSource (inSource (inSource (inSource i))) = i := by
  fin_cases i <;> rfl

theorem inSource_outSource (i : Fin 8) : inSource (outSource i) = i ∧ outSource (inSource i) = i := by
  fin_cases i <;> exact ⟨rfl, rfl⟩

theorem belowIndex_aboveIndex (i : Fin 8) : belowIndex (aboveIndex i) = i ∧ aboveIndex (belowIndex i) = i := by
  fin_cases i <;> exact ⟨rfl, rfl⟩

/-- R128, R129: the two shifts are opposite for either direction. -/
theorem shift_undo (ltr : Bool) (i : Fin 8) :
    (if ltr then aboveIndex else belowIndex) ((if ltr then belowIndex else aboveIndex) i) = i ∧
      (if ltr then belowIndex else aboveIndex) ((if ltr then aboveIndex else belowIndex) i) = i := by
  cases ltr with
  | true => exact (belowIndex_aboveIndex i).symm
  | false => exact belowIndex_aboveIndex i

/-- W10: ROTIN and ROTOUT undo each other. -/
theorem rotin_rotout_undo (m m' : SelField) (s : State) :
    (∃ t u, exec (.rotin m) s = .next t ∧ exec (.rotout m') t = .next u ∧ SameModel s u) ∧
    ∃ t u, exec (.rotout m) s = .next t ∧ exec (.rotin m') t = .next u ∧ SameModel s u := by
  constructor
  · obtain ⟨t, ht, hrot, hflags, -⟩ := rotinResult.2 m s
    obtain ⟨u, hu, hrot', hflags', -⟩ := rotoutResult.2 m' t
    exact ⟨t, u, ht, hu, sameModel_of_moves_undo ⟨hrot, hflags⟩ ⟨hrot', hflags'⟩
      (fun i => (inSource_outSource i).1) fun i => (inSource_outSource i).1⟩
  · obtain ⟨t, ht, hrot, hflags, -⟩ := rotoutResult.2 m s
    obtain ⟨u, hu, hrot', hflags', -⟩ := rotinResult.2 m' t
    exact ⟨t, u, ht, hu, sameModel_of_moves_undo ⟨hrot, hflags⟩ ⟨hrot', hflags'⟩
      (fun i => (inSource_outSource i).2) fun i => (inSource_outSource i).2⟩

/-- W10: ROTLEFT and ROTRIGHT undo each other, since a rotation keeps the direction. -/
theorem rotleft_rotright_undo (m m' : SelField) (s : State) :
    (∃ t u, exec (.rotleft m) s = .next t ∧ exec (.rotright m') t = .next u ∧ SameModel s u) ∧
    ∃ t u, exec (.rotright m) s = .next t ∧ exec (.rotleft m') t = .next u ∧ SameModel s u := by
  constructor
  · obtain ⟨t, ht, hrot, ⟨hltr, hflags⟩, -⟩ := rotleftResult.2 m s
    obtain ⟨u, hu, hrot', hflags', -⟩ := rotrightResult.2 m' t
    rw [hltr] at hrot'
    exact ⟨t, u, ht, hu, sameModel_of_moves_undo ⟨hrot, hltr, hflags⟩ ⟨hrot', hflags'⟩
      (fun i => (shift_undo s.ltr i).1) fun i => (belowIndex_aboveIndex i).1⟩
  · obtain ⟨t, ht, hrot, ⟨hltr, hflags⟩, -⟩ := rotrightResult.2 m s
    obtain ⟨u, hu, hrot', hflags', -⟩ := rotleftResult.2 m' t
    rw [hltr] at hrot'
    exact ⟨t, u, ht, hu, sameModel_of_moves_undo ⟨hrot, hltr, hflags⟩ ⟨hrot', hflags'⟩
      (fun i => (shift_undo s.ltr i).2) fun i => (belowIndex_aboveIndex i).2⟩

/-- Two ROTIN in a row move the records and the bits twice. -/
theorem rotin_twice (m : SelField) (s : State) :
    ∃ t u, exec (.rotin m) s = .next t ∧ exec (.rotin m) t = .next u ∧
      Rotated (inSource ∘ inSource) (inSource ∘ inSource) s u ∧ SameFlags s u := by
  obtain ⟨t, ht, hrot, hflags, -⟩ := rotinResult.2 m s
  obtain ⟨u, hu, hrot', hflags', -⟩ := rotinResult.2 m t
  exact ⟨t, u, ht, hu, rotated_trans hrot hflags hrot', sameFlags_trans hflags hflags'⟩

/-- Settles O41: the four pairs by their opposite moves, and four ROTIN as twice two. -/
theorem rotationsUndo : Obligations.RotationsUndo := by
  intro m m' s
  constructor
  · obtain ⟨hin, hout⟩ := rotin_rotout_undo m m' s
    obtain ⟨hleft, hright⟩ := rotleft_rotright_undo m m' s
    simp only [List.forall_mem_cons]
    exact ⟨hin, hout, hleft, hright, List.forall_mem_nil _⟩
  · obtain ⟨t1, t2, h1, h2, hmoves⟩ := rotin_twice m s
    obtain ⟨t3, t4, h3, h4, hmoves'⟩ := rotin_twice m t2
    exact ⟨t1, t2, t3, t4, h1, h2, h3, h4, sameModel_of_moves_undo hmoves hmoves' inSource_four inSource_four⟩

/-- R83: a masked update by an idempotent function is idempotent. -/
theorem masked_masked {sel : Byte} {f : Pixel → Pixel} (hf : ∀ p, f (f p) = f p) (px : Vector Pixel 8) :
    masked sel f (masked sel f px) = masked sel f px := by
  refine Vector.ext fun i hi => ?_
  have hmasked : ∀ p : Vector Pixel 8, (masked sel f p)[i] = if sel.getLsbD i then f p[i] else p[i] :=
    fun p => masked_getElem sel f p ⟨i, hi⟩
  rw [hmasked, hmasked]
  split
  · exact hf _
  · rfl

/-- A command is idempotent when the update it makes before the end of its step is. -/
theorem idempotent_of_update {i : Instr} {s t : State} (update : State → State)
    (hexec : ∀ r, exec i r = .next (finish (update r)))
    (hidem : SameModel (update s) (update (update s))) (ht : exec i s = .next t) :
    ∃ u, exec i t = .next u ∧ SameModel t u := by
  cases ht.symm.trans (hexec s)
  obtain ⟨u, hu, hsame⟩ := exec_of_sameModel (sameModel_finish (update s)) (hexec (update s))
  exact ⟨u, hu, ((sameModel_finish _).symm.trans (hidem.trans (sameModel_finish _))).trans hsame⟩

/-- R83: a selection-masked write is idempotent, since the selection is the same the second time. -/
theorem idempotent_of_masked {i : Instr} {m : SelField} {f : Pixel → Pixel} {s t : State}
    (hexec : ∀ r, exec i r = .next (finish (r.setPx (masked (selection r m) f r.px))))
    (hf : ∀ p, f (f p) = f p) (ht : exec i s = .next t) : ∃ u, exec i t = .next u ∧ SameModel t u :=
  idempotent_of_update (fun r => r.setPx (masked (selection r m) f r.px)) hexec
    ⟨masked_masked hf s.px, rfl, rfl, rfl, rfl, rfl⟩ ht

/-- R109: so is painting. -/
theorem idempotent_of_paint {i : Instr} {m : SelField} {c : ColorName} {s t : State}
    (hexec : ∀ r, exec i r = paint c m r) (ht : exec i s = .next t) :
    ∃ u, exec i t = .next u ∧ SameModel t u :=
  idempotent_of_masked hexec (fun _ => rfl) ht

/-- Settles O45: a command that leaves the model fields alone answers the same again; flags, overlay and defaults
are written with values that the write does not change; and the masked writes are idempotent on each pixel. -/
theorem commandsIdempotent : Obligations.CommandsIdempotent := by
  intro i s t hi ht
  cases i
  case nop | delay | state =>
    cases ht
    exact exec_of_sameModel (sameModel_finishQuiet _ _ s) rfl
  case bright m a0 =>
    by_cases ha : a0.toNat ≤ 31
    · exact idempotent_of_masked (fun r => exec_bright_of_le m a0 r ha) (fun _ => rfl) ht
    · cases ht.symm.trans (exec_bright_of_gt m a0 s (Nat.lt_of_not_le ha))
      exact exec_of_sameModel (sameModel_errorState _ s) ht
  case off | on | left | right | hold | showCmd | binoff | binary | clear =>
    exact idempotent_of_update _ (fun _ => rfl) ⟨rfl, rfl, rfl, rfl, rfl, rfl⟩ ht
  case rotin | rotout | rotleft | rotright => simp [Instr.opcode] at hi
  case rgb => exact idempotent_of_masked (fun _ => rfl) (fun _ => rfl) ht
  -- left are the colours
  all_goals exact idempotent_of_paint (fun _ => rfl) ht

end Sys2Proof.Proofs
end

section
/-! PROOFS. The state image (41_state_port.md R93, R94): what is loaded is read back, and what is read restores the
model fields. -/

namespace Sys2Proof.Proofs

open Sys2Proof.Machine Sys2Proof.Claims

/-- R27: FLAGS as loaded and read again keeps bits 3:0. -/
theorem flagsByte_of_flags {s : State} {v : Byte} (hltr : s.ltr = flagLtr v) (hon : s.on = flagOn v)
    (hhold : s.hold = flagHold v) (hbin : s.bin = flagBin v) : flagsByte s = v &&& 0x0F#8 := by
  rw [flagsByte, hltr, hon, hhold, hbin]
  clear hltr hon hhold hbin
  revert v
  decide

/-- R27: each flag is a bit of FLAGS as read. -/
theorem flags_of_flagsByte (s : State) : flagLtr (flagsByte s) = s.ltr ∧ flagOn (flagsByte s) = s.on ∧
    flagHold (flagsByte s) = s.hold ∧ flagBin (flagsByte s) = s.bin := by
  unfold flagsByte
  generalize s.ltr = ltr, s.on = on, s.hold = hold, s.bin = bin
  revert ltr on hold bin
  decide

/-- R34, R94: byte `j` of a loaded pixel is the image's byte at its offset. -/
theorem pixelByte_imagePixel (img : Image) (i : Fin 8) {j : Nat} (hj : j < 4) :
    pixelByte (imagePixel img i) j = img[2 + 4 * i.val + j] := by
  interval_cases j
  · rfl
  all_goals exact getElem_congr_idx (by omega)

/-- A pixel is determined by its four image bytes (R34). -/
theorem eq_of_pixelByte {p q : Pixel} (h : ∀ j < 4, pixelByte p j = pixelByte q j) : p = q := by
  obtain ⟨br, r, g, b⟩ := p
  obtain ⟨br', r', g', b'⟩ := q
  obtain rfl : br = br' := h 0 (by decide)
  obtain rfl : b = b' := h 1 (by decide)
  obtain rfl : g = g' := h 2 (by decide)
  obtain rfl : r = r' := h 3 (by decide)
  rfl

/-- R93, R94: a loaded image reads back, with bits 7:4 of FLAGS zero. -/
theorem imgRead_loadImage (img : Image) (s : State) (k : Fin 34) :
    imgRead (loadImage img true s) k.val = some (if k.val = 0 then img[k] &&& 0x0F#8 else img[k]) := by
  rw [loadImage_true]
  obtain ⟨k, hk⟩ := k
  by_cases h0 : k = 0
  · subst h0
    exact congrArg some (flagsByte_of_flags rfl rfl rfl rfl)
  by_cases h1 : k = 1
  · subst h1
    rfl
  let i : Fin 8 := ⟨(k - 2) / 4, by omega⟩
  have hoffset : 2 + 4 * i.val + (k - 2) % 4 = k := by
    have hi : i.val = (k - 2) / 4 := rfl
    omega
  have hj : (k - 2) % 4 < 4 := Nat.mod_lt _ (by decide)
  rw [if_neg h0, imgRead_pixel _ i hj hoffset.symm, State.report_px, loadFields_px, imagePixels_getElem,
    pixelByte_imagePixel img i hj]
  simp only [hoffset, Fin.getElem_fin]

/-- R34, R93: pixel `i` of the image of a state is the state's. -/
theorem imagePixel_image (s : State) (i : Fin 8) : imagePixel (image s) i = s.px[i] := by
  refine eq_of_pixelByte fun j hj => Option.some.inj ?_
  rw [pixelByte_imagePixel _ i hj, ← imgRead_pixel s i hj rfl]
  exact (imgRead_eq_image_getElem s ⟨2 + 4 * i.val + j, by omega⟩).symm

theorem image_zero_one (s : State) : (image s)[0] = flagsByte s ∧ (image s)[1] = s.bmask := by
  simp [image, imageByte]

/-- R93, R94: loading the image of a state gives its model fields. -/
theorem sameModel_loadImage_image (s t : State) : SameModel s (loadImage (image s) true t) := by
  obtain ⟨hflags, hmask⟩ := image_zero_one s
  obtain ⟨hltr, hon, hhold, hbin⟩ := flags_of_flagsByte s
  rw [← hflags] at hltr hon hhold hbin
  have hpx : imagePixels (image s) = s.px :=
    Vector.ext fun i hi => (imagePixels_getElem (image s) ⟨i, hi⟩).trans (imagePixel_image s ⟨i, hi⟩)
  rw [loadImage_true]
  exact ⟨hpx, hltr, hon, hhold, hbin, hmask⟩

/-- Settles O54: byte by byte, then field by field. -/
theorem loadReadRoundTrip : Obligations.LoadReadRoundTrip :=
  ⟨imgRead_loadImage, sameModel_loadImage_image⟩

end Sys2Proof.Proofs
end

section
/-! PROOFS. The transcriber (30_encoding.md R59 to R77): the pixel token against the direction, and the commands
that directives stand for. -/

namespace Sys2Proof.Proofs

open Sys2Proof.Machine Sys2Proof.Claims

/-- R63: the value of the token `pN`. -/
theorem parseNumber_pixelToken : ∀ n : Fin 8,
    parseNumber ['p', Char.ofNat (48 + n.val)] 2 = some (BitVec.ofNat 8 (2 ^ (7 - n.val))) := by
  decide

/-- The mask with the bit `7-n` alone (R63). -/
theorem getLsbD_pixelMask : ∀ n : Fin 8, ∀ k < 8,
    (BitVec.ofNat 8 (2 ^ (7 - n.val))).getLsbD k = decide (k = 7 - n.val) := by
  decide

/-- Settles O19: the token has one bit, at `7-N`, which the direction mirrors or not. -/
theorem pixelTokenSelectsLogical : Obligations.PixelTokenSelectsLogical := by
  intro s n i
  refine ⟨_, parseNumber_pixelToken n, ?_⟩
  rw [selected, Bool.not_true, Bool.false_or, internalBit]
  split
  · rw [getLsbD_pixelMask n _ (by omega), decide_eq_true_iff]
    omega
  · rw [getLsbD_pixelMask n _ i.isLt, decide_eq_true_iff]

/-- R59: what the transcriber relies on for a name without arguments: its command is well formed and not NOP. -/
def PlainSound : Directive → Prop
  | .plain c => ∀ m, (c m).wf = true ∧ (c m).opcode ≠ 0x00#6
  | .bright | .rgb | .binary | .delay | .rotate | .hostText => True

theorem plainSound_of_mem_directiveTable : ∀ p ∈ directiveTable, PlainSound p.2 := by
  simp [directiveTable, PlainSound, Instr.wf, Instr.opcode]

theorem plainSound_of_directiveOf {name : Token} {d : Directive} (h : directiveOf name = some d) :
    PlainSound d := by
  obtain ⟨l₁, l₂, htable, -⟩ := List.lookup_eq_some_iff.mp h
  exact plainSound_of_mem_directiveTable (name, d) (by simp [htable])

/-- R70: an argument that is accepted is below its limit. -/
theorem lt_of_argument {limit pos v : Nat} {t : Token} (h : argument limit pos t = .ok v) : v < limit := by
  unfold argument at h
  split at h
  · cases h
  · split at h <;> cases h
    assumption

theorem map_eq_ok {α β : Type} {f : α → β} {x : Except Err α} {b : β} (h : x.map f = .ok b) :
    ∃ a, x = .ok a ∧ f a = b := by
  cases x with
  | error e => cases h
  | ok a => cases h; exact ⟨a, rfl, rfl⟩

/-- R108, R71: `rgb` answers RGB. -/
theorem rgbCommand_ok {m : SelField} {pos : Nat} {args : List Token} {i : Instr}
    (h : rgbCommand m pos args = .ok i) : ∃ r g b, i = .rgb m r g b := by
  unfold rgbCommand at h
  split at h
  · cases h
  split at h
  · cases h
  split at h <;> cases h
  exact ⟨_, _, _, rfl⟩

/-- R72: `binary` answers BINOFF or BINARY. -/
theorem binaryCommand_ok {m : SelField} {pos : Nat} {t : Token} {i : Instr}
    (h : binaryCommand m pos t = .ok i) : i = .binoff m ∨ ∃ v, i = .binary m v := by
  unfold binaryCommand at h
  split at h
  · cases h
    exact .inl rfl
  split at h <;> cases h
  exact .inr ⟨_, rfl⟩

/-- R73: `rotate` answers one of the four rotations. -/
theorem rotateCommand_ok {m : SelField} {pos : Nat} {t : Token} {i : Instr}
    (h : rotateCommand m pos t = .ok i) : i ∈ [.rotin m, .rotout m, .rotleft m, .rotright m] := by
  unfold rotateCommand at h
  split_ifs at h <;> cases h <;> simp

/-- What a transcribed command satisfies (30_encoding.md section 7). -/
def Runs (i : Instr) : Prop := i.wf = true ∧ i.opcode ≠ 0x00#6

/-- R70, R107: a brightness that the transcriber accepts is in range at the block. -/
theorem runs_bright_of_argument {m : SelField} {pos v : Nat} {t : Token} (h : argument 32 pos t = .ok v) :
    Runs (.bright m (BitVec.ofNat 8 v)) := by
  have hv : v < 32 := lt_of_argument h
  refine ⟨?_, nofun⟩
  simp only [Instr.wf, BitVec.toNat_ofNat, decide_eq_true_eq]
  omega

/-- R69 to R73: the command of a directive, by directive. -/
theorem runs_of_directiveCommand {m : SelField} {pos : Nat} {d : Directive} {args : List Token} {i : Instr}
    (hd : PlainSound d) (h : directiveCommand m pos d args = some (.ok i)) : Runs i := by
  cases d with
  | hostText => cases h
  | plain c => cases h; exact hd m
  | rgb =>
    obtain ⟨r, g, b, rfl⟩ := rgbCommand_ok (Option.some.inj h)
    exact ⟨rfl, nofun⟩
  | bright =>
    cases args with
    | nil => cases h
    | cons t rest =>
      obtain ⟨v, hv, rfl⟩ := map_eq_ok (Option.some.inj h)
      exact runs_bright_of_argument hv
  | binary =>
    cases args with
    | nil => cases h
    | cons t rest =>
      rcases binaryCommand_ok (Option.some.inj h) with rfl | ⟨v, rfl⟩
      · exact ⟨rfl, nofun⟩
      · exact ⟨rfl, nofun⟩
  | delay =>
    cases args with
    | nil => cases h
    | cons t rest =>
      obtain ⟨v, -, rfl⟩ := map_eq_ok (Option.some.inj h)
      exact ⟨rfl, nofun⟩
  | rotate =>
    cases args with
    | nil => cases h
    | cons t rest =>
      have hi := rotateCommand_ok (Option.some.inj h)
      simp only [List.mem_cons, List.not_mem_nil, or_false] at hi
      rcases hi with rfl | rfl | rfl | rfl
      all_goals exact ⟨rfl, nofun⟩

/-- R74, R75: a word behind a directive name is the encoding of the directive's command. -/
theorem runs_of_transcribeDirective {m : SelField} {pos : Nat} {ts : List Token} {w : CmdWord}
    (h : transcribeDirective m pos ts = .word w) : ∃ i, w = encode i ∧ Runs i := by
  unfold transcribeDirective at h
  split at h
  · cases h
  split at h
  · cases h
  next hname =>
    split at h <;> cases h
    next hcommand => exact ⟨_, rfl, runs_of_directiveCommand (plainSound_of_directiveOf hname) hcommand⟩

/-- R67: the same for a whole invocation, with a selection or without. -/
theorem runs_of_transcribe {ts : List Token} {w : CmdWord} (h : transcribe ts = .word w) :
    ∃ i, w = encode i ∧ Runs i := by
  unfold transcribe at h
  split at h
  · cases h
  split at h
  · split at h
    · cases h
    · exact runs_of_transcribeDirective h
  · exact runs_of_transcribeDirective h

/-- Settles O57: the word is an encoding, and decoding gives the command back. -/
theorem transcribedWordsRun : Obligations.TranscribedWordsRun := by
  intro ts w h
  obtain ⟨i, rfl, hwf, hop⟩ := runs_of_transcribe h
  exact ⟨i, decodeOfEncode i, hwf, hop⟩

/-- R70: an argument within its limit. -/
theorem argument_of_lt {limit pos v : Nat} {t : Token} (h : parseValue t 10 = some v) (hv : v < limit) :
    argument limit pos t = .ok v := by
  rw [argument, h]
  exact if_pos hv

/-- R70: an argument beyond its limit. -/
theorem argument_of_not_lt {limit pos v : Nat} {t : Token} (h : parseValue t 10 = some v)
    (hv : ¬ v < limit) : argument limit pos t = .error (.range v) := by
  rw [argument, h]
  exact if_neg hv

/-- R67: an invocation without a selection. -/
theorem transcribe_of_not_numeric {name : Token} {args : List Token} (h : isNumericToken name = false) :
    transcribe (name :: args) = transcribeDirective ⟨false, 0⟩ 0 (name :: args) := by
  rw [transcribe, h]
  rfl

/-- R77: a directive with good arguments gives the word of its command. -/
theorem transcribeDirective_of_ok {m : SelField} {pos : Nat} {name : Token} {args : List Token}
    {d : Directive} {i : Instr} (hd : directiveOf name = some d)
    (hi : directiveCommand m (pos + 1) d args = some (.ok i)) :
    transcribeDirective m pos (name :: args) = .word (encode i) := by
  simp only [transcribeDirective, hd, hi]

/-- R77: an error gives no word. -/
theorem transcribeDirective_of_error {m : SelField} {pos : Nat} {name : Token} {args : List Token}
    {d : Directive} {e : Err} (hd : directiveOf name = some d)
    (he : directiveCommand m (pos + 1) d args = some (.error e)) :
    transcribeDirective m pos (name :: args) = .failed e := by
  simp only [transcribeDirective, hd, he]

/-- Settles O58: both arguments are checked on the value that was parsed. -/
theorem rangeCheckedBeforeWrap : Obligations.RangeCheckedBeforeWrap := by
  intro t rest v hv
  rw [transcribe_of_not_numeric (by decide), transcribe_of_not_numeric (by decide)]
  constructor
  · split
    · refine transcribeDirective_of_ok (d := .bright) rfl ?_
      rw [directiveCommand, argument_of_lt hv (by omega)]
      rfl
    · refine transcribeDirective_of_error (d := .bright) rfl ?_
      rw [directiveCommand, argument_of_not_lt hv (by omega)]
      rfl
  · split
    next hle =>
      refine transcribeDirective_of_ok (d := .delay) rfl ?_
      rw [directiveCommand, argument_of_lt hv hle]
      rfl
    next hgt =>
      refine transcribeDirective_of_error (d := .delay) rfl ?_
      rw [directiveCommand, argument_of_not_lt hv hgt]
      rfl

end Sys2Proof.Proofs
end

section
/-! PROOFS. The persisted file (41_state_port.md R97, R98): decimals, fields and lines are read back as they were
written, so the file of a state reads as its image. -/

namespace Sys2Proof.Proofs

open Sys2Proof.Machine Sys2Proof.Claims

/-- A piece without the separator, then the separator, is a piece of its own. -/
theorem endedPieces_append_sep {sep : Char} {cs : List Char} (h : sep ∉ cs) (piece rest : List Char) :
    endedPieces sep piece (cs ++ sep :: rest) = (piece ++ cs) :: endedPieces sep [] rest := by
  induction cs generalizing piece with
  | nil => rw [List.nil_append, endedPieces, if_pos rfl, List.append_nil]
  | cons c cs ih =>
    obtain ⟨hc, hcs⟩ := not_or.mp (List.mem_cons.not.mp h)
    rw [List.cons_append, endedPieces, if_neg (Ne.symm hc), ih hcs, List.append_assoc, List.singleton_append]

/-- Lines written one after the other are read back. -/
theorem linesOf_flatMap_line {ls : List (List Char)} (h : ∀ l ∈ ls, '\n' ∉ l) :
    linesOf (ls.flatMap line) = ls := by
  unfold linesOf
  induction ls with
  | nil => rfl
  | cons l ls ih =>
    obtain ⟨hl, hls⟩ := List.forall_mem_cons.mp h
    rw [List.flatMap_cons, line, List.append_assoc, List.singleton_append, endedPieces_append_sep hl, ih hls,
      List.nil_append]

/-- A decimal is written with digits only (R97). -/
theorem isDigit_of_mem_decimal {n : Nat} {c : Char} (h : c ∈ decimal n) : c.isDigit = true :=
  Nat.isDigit_of_mem_toDigits (by decide) (by decide) h

theorem not_mem_decimal {c : Char} (h : c.isDigit = false) (n : Nat) : c ∉ decimal n := by
  intro hc
  rw [isDigit_of_mem_decimal hc] at h
  cases h

theorem digitValue_of_isDigit {c : Char} (h : c.isDigit = true) : digitValue 10 c = some (c.toNat - 48) := by
  have hrange : '0' ≤ c ∧ c ≤ '9' := by simpa [Char.isDigit, Char.le_def] using h
  have hle : c.toNat ≤ 57 := hrange.2
  simp only [digitValue, hrange, and_self, if_true]
  exact Option.filter_some_pos (by simpa using (by omega : c.toNat - 48 < 10))

/-- A numeral of decimal digits has the value the library gives it (R61). -/
theorem numeralFrom_of_isDigit {cs : List Char} (h : ∀ c ∈ cs, c.isDigit = true) (acc : Nat) :
    numeralFrom 10 acc cs = some (Nat.ofDigitChars 10 cs acc) := by
  induction cs generalizing acc with
  | nil => rfl
  | cons c cs ih =>
    obtain ⟨hc, hcs⟩ := List.forall_mem_cons.mp h
    rw [numeralFrom, digitValue_of_isDigit hc, Nat.ofDigitChars_cons, Nat.mul_comm 10 acc]
    exact ih hcs _

/-- A number written in decimal is read back. -/
theorem numeral_decimal (n : Nat) : numeral 10 (decimal n) = some n := by
  have hne : decimal n ≠ [] := Nat.toDigits_ne_nil
  obtain ⟨c, cs, hcs⟩ := List.exists_cons_of_ne_nil hne
  calc numeral 10 (decimal n) = numeralFrom 10 0 (decimal n) := by rw [hcs]; rfl
    _ = some (Nat.ofDigitChars 10 (decimal n) 0) := numeralFrom_of_isDigit (fun _ => isDigit_of_mem_decimal) 0
    _ = some n := congrArg some Nat.ofDigitChars_ten_toDigits

/-- R98: a byte written in decimal is read back. -/
theorem fileInteger_decimal (v : Byte) : fileInteger (decimal v.toNat) = some v := by
  rw [fileInteger, numeral_decimal]
  simp [v.isLt]

theorem wordsOf_append_space {cs rest : List Char} (h : ' ' ∉ cs) (hne : cs ≠ []) :
    wordsOf (cs ++ ' ' :: rest) = cs :: wordsOf rest := by
  rw [wordsOf, List.append_assoc, List.cons_append, endedPieces_append_sep h]
  simp [wordsOf, hne]

theorem wordsOf_decimal (n : Nat) : wordsOf (decimal n) = [decimal n] := by
  have hne : decimal n ≠ [] := Nat.toDigits_ne_nil
  rw [wordsOf, endedPieces_append_sep (not_mem_decimal (by decide) n)]
  simp [endedPieces, hne]

theorem wordsOf_decimal_append (n : Nat) (rest : List Char) :
    wordsOf (decimal n ++ ' ' :: rest) = decimal n :: wordsOf rest :=
  wordsOf_append_space (not_mem_decimal (by decide) n) Nat.toDigits_ne_nil

/-- R97: the four fields of a pixel line. -/
theorem wordsOf_pixelLine (p : Pixel) : wordsOf (pixelLine p) =
    [decimal p.br.toNat, decimal p.b.toNat, decimal p.g.toNat, decimal p.r.toNat] := by
  simp only [pixelLine, wordsOf_decimal_append, wordsOf_decimal]

theorem readPixelLine_pixelLine (p : Pixel) : readPixelLine (pixelLine p) = some p := by
  simp only [readPixelLine, wordsOf_pixelLine, fileInteger_decimal]

theorem readMaskLine_decimal (v : Byte) : readMaskLine (decimal v.toNat) = some v := by
  simp only [readMaskLine, wordsOf_decimal, fileInteger_decimal]

theorem readPixelLines_map (ps : List Pixel) : readPixelLines (ps.map pixelLine) = some ps := by
  induction ps with
  | nil => rfl
  | cons p ps ih => simp only [List.map_cons, readPixelLines, readPixelLine_pixelLine, ih]

theorem newline_not_mem_pixelLine (p : Pixel) : '\n' ∉ pixelLine p := by
  have hdecimal : ∀ n, '\n' ∉ decimal n := not_mem_decimal (by decide)
  simp [pixelLine, hdecimal]

theorem newline_not_mem_onOff (v : Bool) : '\n' ∉ onOff v := by
  revert v
  decide

/-- R97: no line of a file holds a newline. -/
theorem newline_not_mem_fileLines (s : State) : ∀ l ∈ fileLines s, '\n' ∉ l := by
  have hfirst : ∀ v : Bool, '\n' ∉ (if v then ['l', 'e', 'f', 't'] else ['r', 'i', 'g', 'h', 't']) := by decide
  simp only [fileLines, List.cons_append, List.nil_append, List.forall_mem_cons, List.forall_mem_map]
  exact ⟨hfirst s.ltr, newline_not_mem_onOff _, newline_not_mem_onOff _, newline_not_mem_onOff _,
    not_mem_decimal (by decide) _, fun p _ => newline_not_mem_pixelLine p⟩

theorem linesOf_saveFile (s : State) : linesOf (saveFile s) = fileLines s :=
  linesOf_flatMap_line (newline_not_mem_fileLines s)

/-- R27, R98: the four boolean lines give FLAGS back. -/
theorem readFlags_fileLines (s : State) :
    readFlags (if s.ltr then ['l', 'e', 'f', 't'] else ['r', 'i', 'g', 'h', 't']) (onOff s.on) (onOff s.hold)
      (onOff s.bin) = flagsByte s := by
  unfold flagsByte
  generalize s.ltr = ltr, s.on = on, s.hold = hold, s.bin = bin
  revert ltr on hold bin
  decide

/-- R34: the image put together from the parts of a state. -/
theorem imageOfParts_toList (s : State) (h : s.px.toList.length = 8) :
    imageOfParts (flagsByte s) s.bmask s.px.toList h = image s := by
  simp only [imageOfParts, image, Vector.getElem_toList]
  rfl

/-- R98, R99: the file saved for a state reads as its image. -/
theorem readFile_saveFile (s : State) : readFile (saveFile s) = some (image s) := by
  have hlength : s.px.toList.length = 8 := Vector.length_toList
  have htake : (s.px.toList.map pixelLine).take 8 = s.px.toList.map pixelLine :=
    List.take_of_length_le (by rw [List.length_map, hlength])
  rw [readFile, linesOf_saveFile]
  simp only [fileLines, List.cons_append, List.nil_append, readMaskLine_decimal, htake, readPixelLines_map,
    hlength, dite_true, readFlags_fileLines, imageOfParts_toList]

/-- R97: the file is a function of the model fields. -/
theorem saveFile_of_sameModel {s t : State} (h : SameModel s t) : saveFile t = saveFile s := by
  obtain ⟨hpx, hltr, hon, hhold, hbin, hmask⟩ := h
  simp only [saveFile, fileLines, hpx, hltr, hon, hhold, hbin, hmask]

/-- R94, R98: the transaction that the host presents for the file of a state. -/
theorem loadTransaction_saveFile (s : State) : loadTransaction (saveFile s) = .loadImage (image s) true := by
  rw [loadTransaction, readFile_saveFile]

/-- Settles O59: the load gives the model fields of the state, and those give the file. -/
theorem persistedFileRoundTrip : Obligations.PersistedFileRoundTrip := by
  intro s t
  refine ⟨readFile_saveFile s, loadImage (image s) true t, ?_, ?_⟩
  · rw [loadTransaction_saveFile, transact_loadImage]
  · exact saveFile_of_sameModel (sameModel_loadImage_image s t)

end Sys2Proof.Proofs
end

section
/-! PROOFS. One run of the process (70_reset_and_hazards.md R168): the load gives the block the model fields of the
saved state, and a command is a function of those. -/

namespace Sys2Proof.Proofs

open Sys2Proof.Machine Sys2Proof.Claims

/-- A command word on two states with the same model fields leaves the same model fields. -/
theorem command_of_sameModel {w : CmdWord} {s s' t : State} (h : SameModel s s') (hcmd : command w s = .next t) :
    ∃ t', command w s' = .next t' ∧ SameModel t t' := by
  rcases command_cases hcmd with ⟨i, hd, hexec⟩ | ⟨e, hd, rfl⟩
  · rw [command_ok hd]
    exact exec_of_sameModel h hexec
  · exact ⟨_, command_error hd s', h⟩

/-- R168: the state in which a run on the file of `s` performs its command. -/
def booted (s s0 : State) : State := loadImage (image s) true (doReset s0)

/-- R168: a run on the file of a state with a transcribed word is reset, load, and the word. -/
theorem performAll_bootTransactions {s s0 u : State} {args : List Token} {w : CmdWord}
    (hw : transcribe args = .word w) (hu : command w (booted s s0) = .next u) :
    performAll (bootTransactions (some (saveFile s)) args) s0 = .next u := by
  simp only [bootTransactions, hw, Option.map_some, Option.toList_some, loadTransaction_saveFile,
    List.singleton_append, performAll, transact_reset, transact_loadImage, transact_cmd]
  rw [← booted, hu]

/-- Settles O60: the command runs on the model fields of `s`, and the run's last report is the command's. -/
theorem bootRunCarriesOver : Obligations.BootRunCarriesOver := by
  intro s s0 t args w hw ht
  obtain ⟨u, hu, hsame⟩ := command_of_sameModel (s' := booted s s0) (sameModel_loadImage_image s _) ht
  obtain ⟨-, st, es, hreport⟩ := command_pending_out hu
  have hout : u.out = s0.out ++ [.load ⟨.ok, false⟩, .cmd st es] := by
    rw [hreport, booted, loadImage_true]
    simp
  have hlast : u.out.getLast? = some (.cmd st es) := by simp [hout]
  have hnew : (u.out.drop s0.out.length).getLast? = some (.cmd st es) := by simp [hout]
  have hrun : runInvocation (some (saveFile s)) args s0 =
      some (u, if st.changed then some (saveFile u) else some (saveFile s)) := by
    rw [runInvocation, performAll_bootTransactions hw hu]
    simp only [hnew, storeAfter]
  refine ⟨u, _, hrun, hsame, ?changed, ?unchanged⟩
  case changed =>
    rintro ⟨rd, es', h⟩
    cases hlast.symm.trans h
    exact congrArg some (saveFile_of_sameModel hsame)
  case unchanged =>
    rintro ⟨e, rd, es', h⟩
    cases hlast.symm.trans h
    rfl

end Sys2Proof.Proofs
end
